-- ==== Sys2Proof/Word.lean ====
section
/-! DEFINITION. The widths the spec gives its quantities (00_scope.md R6, R8): one abbreviation each. -/

namespace Sys2Proof

/-- A register byte, a fetched byte, a mask of the eight sprites (`u8`). -/
abbrev Byte := BitVec 8

/-- `CLOCK`, an absolute tick count of the CPU clock: `u32`, arithmetic modulo 2^32 (00_scope.md R8; 92 D2). -/
abbrev Clock := BitVec 32

/-- A register address 0x00..0x3F (`u6`, 00_scope.md R6). -/
abbrev RegAddr := BitVec 6

/-- A fetch address of the 64 KB spaces (`u16`, 20_memory.md R40). -/
abbrev Addr := BitVec 16

/-- A colour index, the low nibble of a colour register (`u4`, 44_renderer.md R202). -/
abbrev Colour := BitVec 4

/-- The transaction word of 30_encoding.md R60: 18 bits. -/
abbrev BusWord := BitVec 18

/-- A sprite number 0..7 (00_scope.md R6). -/
abbrev SpriteNo := Fin 8

/-- `TEXTCOLS`, the character columns of a line (00_scope.md R6). -/
def textCols : Nat := 40

/-- The eight sprite numbers in ascending order. -/
def spriteNumbers : List SpriteNo := [0, 1, 2, 3, 4, 5, 6, 7]

end Sys2Proof
end

