-- ==== Sys2Proof/Syntax.lean ====
section
/-! DEFINITION. The operations of the block, one constructor per row of spec/opcode_table.json: a READ, a WRITE and
a PEEK at each of the 64 register addresses, and the 18 EVENTs (30_encoding.md R60, R61, R63). The operands of a
WRITE are the fields `wc` and `value` of its word; the operands of host operations travel beside the word (R63) and
stand in `State.operands`. -/

namespace Sys2Proof

/-- One operation of the block (00_scope.md R3). -/
inductive Instr where
  | read00
  | read01
  | read02
  | read03
  | read04
  | read05
  | read06
  | read07
  | read08
  | read09
  | read0A
  | read0B
  | read0C
  | read0D
  | read0E
  | read0F
  | read10
  | read11
  | read12
  | read13
  | read14
  | read15
  | read16
  | read17
  | read18
  | read19
  | read1A
  | read1B
  | read1C
  | read1D
  | read1E
  | read1F
  | read20
  | read21
  | read22
  | read23
  | read24
  | read25
  | read26
  | read27
  | read28
  | read29
  | read2A
  | read2B
  | read2C
  | read2D
  | read2E
  | read2F
  | read30
  | read31
  | read32
  | read33
  | read34
  | read35
  | read36
  | read37
  | read38
  | read39
  | read3A
  | read3B
  | read3C
  | read3D
  | read3E
  | read3F
  | write00 (wc : BitVec 2) (v : Byte)
  | write01 (wc : BitVec 2) (v : Byte)
  | write02 (wc : BitVec 2) (v : Byte)
  | write03 (wc : BitVec 2) (v : Byte)
  | write04 (wc : BitVec 2) (v : Byte)
  | write05 (wc : BitVec 2) (v : Byte)
  | write06 (wc : BitVec 2) (v : Byte)
  | write07 (wc : BitVec 2) (v : Byte)
  | write08 (wc : BitVec 2) (v : Byte)
  | write09 (wc : BitVec 2) (v : Byte)
  | write0A (wc : BitVec 2) (v : Byte)
  | write0B (wc : BitVec 2) (v : Byte)
  | write0C (wc : BitVec 2) (v : Byte)
  | write0D (wc : BitVec 2) (v : Byte)
  | write0E (wc : BitVec 2) (v : Byte)
  | write0F (wc : BitVec 2) (v : Byte)
  | write10 (wc : BitVec 2) (v : Byte)
  | write11 (wc : BitVec 2) (v : Byte)
  | write12 (wc : BitVec 2) (v : Byte)
  | write13 (wc : BitVec 2) (v : Byte)
  | write14 (wc : BitVec 2) (v : Byte)
  | write15 (wc : BitVec 2) (v : Byte)
  | write16 (wc : BitVec 2) (v : Byte)
  | write17 (wc : BitVec 2) (v : Byte)
  | write18 (wc : BitVec 2) (v : Byte)
  | write19 (wc : BitVec 2) (v : Byte)
  | write1A (wc : BitVec 2) (v : Byte)
  | write1B (wc : BitVec 2) (v : Byte)
  | write1C (wc : BitVec 2) (v : Byte)
  | write1D (wc : BitVec 2) (v : Byte)
  | write1E (wc : BitVec 2) (v : Byte)
  | write1F (wc : BitVec 2) (v : Byte)
  | write20 (wc : BitVec 2) (v : Byte)
  | write21 (wc : BitVec 2) (v : Byte)
  | write22 (wc : BitVec 2) (v : Byte)
  | write23 (wc : BitVec 2) (v : Byte)
  | write24 (wc : BitVec 2) (v : Byte)
  | write25 (wc : BitVec 2) (v : Byte)
  | write26 (wc : BitVec 2) (v : Byte)
  | write27 (wc : BitVec 2) (v : Byte)
  | write28 (wc : BitVec 2) (v : Byte)
  | write29 (wc : BitVec 2) (v : Byte)
  | write2A (wc : BitVec 2) (v : Byte)
  | write2B (wc : BitVec 2) (v : Byte)
  | write2C (wc : BitVec 2) (v : Byte)
  | write2D (wc : BitVec 2) (v : Byte)
  | write2E (wc : BitVec 2) (v : Byte)
  | write2F (wc : BitVec 2) (v : Byte)
  | write30 (wc : BitVec 2) (v : Byte)
  | write31 (wc : BitVec 2) (v : Byte)
  | write32 (wc : BitVec 2) (v : Byte)
  | write33 (wc : BitVec 2) (v : Byte)
  | write34 (wc : BitVec 2) (v : Byte)
  | write35 (wc : BitVec 2) (v : Byte)
  | write36 (wc : BitVec 2) (v : Byte)
  | write37 (wc : BitVec 2) (v : Byte)
  | write38 (wc : BitVec 2) (v : Byte)
  | write39 (wc : BitVec 2) (v : Byte)
  | write3A (wc : BitVec 2) (v : Byte)
  | write3B (wc : BitVec 2) (v : Byte)
  | write3C (wc : BitVec 2) (v : Byte)
  | write3D (wc : BitVec 2) (v : Byte)
  | write3E (wc : BitVec 2) (v : Byte)
  | write3F (wc : BitVec 2) (v : Byte)
  | peek00
  | peek01
  | peek02
  | peek03
  | peek04
  | peek05
  | peek06
  | peek07
  | peek08
  | peek09
  | peek0A
  | peek0B
  | peek0C
  | peek0D
  | peek0E
  | peek0F
  | peek10
  | peek11
  | peek12
  | peek13
  | peek14
  | peek15
  | peek16
  | peek17
  | peek18
  | peek19
  | peek1A
  | peek1B
  | peek1C
  | peek1D
  | peek1E
  | peek1F
  | peek20
  | peek21
  | peek22
  | peek23
  | peek24
  | peek25
  | peek26
  | peek27
  | peek28
  | peek29
  | peek2A
  | peek2B
  | peek2C
  | peek2D
  | peek2E
  | peek2F
  | peek30
  | peek31
  | peek32
  | peek33
  | peek34
  | peek35
  | peek36
  | peek37
  | peek38
  | peek39
  | peek3A
  | peek3B
  | peek3C
  | peek3D
  | peek3E
  | peek3F
  | eventAdvance
  | eventHandlePendingAlarms
  | eventFetchAlarm
  | eventDrawAlarm
  | eventRasterIrqAlarm
  | eventClockOverflow
  | eventBadlineEval
  | eventFetchMatrix
  | eventCheckSpriteDma
  | eventFetchSprite
  | eventDrawLine
  | eventReset
  | eventSnapshotWrite
  | eventSnapshotLoad
  | eventSetVbank
  | eventSetRamBase
  | eventLightpenTrigger
  | eventVideoRamStore
  deriving DecidableEq, Repr

end Sys2Proof
end

