-- ==== Sys2Proof/Config.lean ====
section
/-! DEFINITION. What an implementation fixes (00_scope.md R5 to R7, the OPEN parameters of
92_eei_decisions.md) and the free values of the model. A configuration is plain data; its defaults are
the spec's own (most of them marked there as general knowledge). Logs 6 to 11, 14, 21, 30. -/

namespace Sys2Proof

/-- `STD`, the video standard (00_scope.md R5). -/
inductive Standard where
  | pal
  | ntsc
  deriving DecidableEq, Repr

/-- `CPL`, cycles per line (00_scope.md R5). -/
def Standard.cyclesPerLine : Standard → Nat
  | .pal => 63
  | .ntsc => 65

/-- `SCREEN_HEIGHT`, lines per frame (00_scope.md R5). -/
def Standard.screenHeight : Standard → Nat
  | .pal => 312
  | .ntsc => 263

/-- One tuple `(cycle, num, first, last)` of a sprite fetch list (43_fetch.md R183). -/
structure FetchTuple where
  /-- offset from `SPRITE_FETCH_CYCLE` -/
  cycle : Int
  /-- the CPU cycles the tuple steals, at least 1 by R183 -/
  num : Nat
  first : SpriteNo
  last : SpriteNo
  deriving DecidableEq, Repr

/-- A snapshot version `(major, minor)` (45_snapshot.md R240). -/
structure Version where
  major : Byte
  minor : Byte
  deriving DecidableEq, Repr

/-- Versions are compared major first, then minor (45_snapshot.md R241). -/
def Version.newerThan (v w : Version) : Bool :=
  w.major.ult v.major || (v.major == w.major && w.minor.ult v.minor)

/-- The parameters of 00_scope.md R5 to R7, 20_memory.md R45, 30_encoding.md R66, 43_fetch.md R183 and
R186, 44_renderer.md R206, 45_snapshot.md R241. -/
structure Config where
  /-- `CLOCK_MAX`, the value of a disarmed alarm clock (R7) -/
  clockMax : Clock
  /-- `OVERFLOW_BASE` and `OVERFLOW_TRIGGER` (R7, 41_scheduler.md R153; log 21) -/
  overflowBase : Clock
  overflowTrigger : Clock
  std : Standard
  firstDmaLine : Nat
  lastDmaLine : Nat
  fetchCycle : Nat
  drawCycle : Nat
  spriteFetchCycle : Nat
  checkSpriteDmaCycle : Nat
  /-- `BA_LEAD` -/
  baLead : Nat
  displayX0 : Nat
  xposOffset : Int
  /-- `border_top` and `border_bottom` with 25 rows, then with 24 (R206) -/
  top25 : BitVec 16
  bottom25 : BitVec 16
  top24 : BitVec 16
  bottom24 : BitVec 16
  /-- `LEFT` and `RIGHT` relative to `DISPLAY_X0` with 40 columns, then with 38 (R206). The rules give these edges no
  range; any integer is one, left of `DISPLAY_X0` too: DESIGN CHOICE, log 30 -/
  left40 : Int
  right40 : Int
  left38 : Int
  right38 : Int
  /-- `REGMAP`: entry `a` is the register that lives at address `a`, a register being known by its address in the
  default map (30_encoding.md R64; log 7) -/
  regmap : List RegAddr
  /-- the bit part of `REGMAP`: entry `k` of entry `r` is the bit of register `r`, as 30_encoding.md R65 numbers it,
  that lives in bit `k` of the byte on the bus (92_eei_decisions.md D5; log 7) -/
  bitmap : List (List Nat)
  /-- `ALWAYS1`, one mask per register address (R66; log 7) -/
  always1 : List Byte
  crunchTable : List (BitVec 6)
  /-- one list of tuples per DMA mask (R183) -/
  spriteFetchTable : List (List FetchTuple)
  /-- `CHARGEN_WINDOWS` as inclusive ranges of 16-bit addresses (R45) -/
  chargenWindows : List (Addr × Addr)
  snapshotVersion : Version
  deriving DecidableEq, Repr

/-- The places of R65 itself: bit `k` in bit `k`. -/
def defaultPlaces : List Nat := List.range 8

/-- The byte whose bit `k` is `f k`. -/
def byteOfBits (f : Nat → Bool) : Byte := (List.range 8).foldl (fun m k => if f k then m ||| (1#8 <<< k) else m) 0#8

/-- Bit `k` of the result is bit `l[k]` of `v`. -/
def placeBits (l : List Nat) (v : Byte) : Byte := byteOfBits fun k => v.getLsbD (l.getD k k)

/-- Bit `l[k]` of the result is bit `k` of `b`. -/
def gatherBits (l : List Nat) (b : Byte) : Byte := byteOfBits fun j => b.getLsbD (l.idxOf j)

namespace Config

/-- FREE VALUE. `OVERFLOW_BASE` has no value in the source; no rule reads it (41_scheduler.md R153; log 21). -/
opaque freeOverflowBase : Clock

/-- FREE VALUE. `OVERFLOW_TRIGGER` has no value in the source; no rule reads it (41_scheduler.md R153; log 21). -/
opaque freeOverflowTrigger : Clock

/-- `CPL`. -/
def cpl (c : Config) : Nat := c.std.cyclesPerLine

/-- `SCREEN_HEIGHT`. -/
def screenHeight (c : Config) : Nat := c.std.screenHeight

/-- `CPL * SCREEN_HEIGHT`, the cycles of a frame. -/
def frame (c : Config) : Nat := c.cpl * c.screenHeight

/-- `SPRITE_FETCH_TABLE[m]`. -/
def fetchList (c : Config) (m : Byte) : List FetchTuple := c.spriteFetchTable.getD m.toNat []

/-- The register at an address (30_encoding.md R64). -/
def registerAt (c : Config) (a : RegAddr) : RegAddr := c.regmap.getD a.toNat a

/-- The address of a register (30_encoding.md R64). -/
def addressOf (c : Config) (r : RegAddr) : RegAddr := BitVec.ofNat 6 (c.regmap.idxOf r)

/-- The byte on the bus for a value of register `r`: its bits at their places (30_encoding.md R65; log 7). -/
def busByte (c : Config) (r : RegAddr) (v : Byte) : Byte := placeBits (c.bitmap.getD r.toNat defaultPlaces) v

/-- The value of register `r` that a byte on the bus stands for (30_encoding.md R65; log 7). -/
def registerByte (c : Config) (r : RegAddr) (b : Byte) : Byte := gatherBits (c.bitmap.getD r.toNat defaultPlaces) b

/-- `ALWAYS1[a]`. -/
def always1At (c : Config) (a : RegAddr) : Byte := c.always1.getD a.toNat 0

/-- `CRUNCH_TABLE[b]`. -/
def crunchAt (c : Config) (b : BitVec 6) : BitVec 6 := c.crunchTable.getD b.toNat 0

/-- `ROWS(rsel)`, the first and last line of the display window (44_renderer.md R206). -/
def rows (c : Config) (rsel : Bool) : BitVec 16 × BitVec 16 :=
  if rsel then (c.top25, c.bottom25) else (c.top24, c.bottom24)

/-- The default `REGMAP`: each register at the address it is known by (30_encoding.md R64, PRESUMED there but for
0x11, 0x15 and 0x18). -/
def defaultRegmap : List RegAddr := (List.range 64).map (BitVec.ofNat 6)

/-- The default places of the bits, those of 30_encoding.md R65 (PRESUMED there but for the ones marked `src`). -/
def defaultBitmap : List (List Nat) := List.replicate 64 defaultPlaces

/-- The default `ALWAYS1` table (30_encoding.md R66, PRESUMED there). -/
def defaultAlways1 : List Byte :=
  List.replicate 0x16 0x00#8 ++ [0xC0#8, 0x00#8, 0x01#8, 0x70#8, 0xF0#8] ++
    List.replicate 5 0x00#8 ++ List.replicate 15 0xF0#8 ++ List.replicate 17 0xFF#8

/-- One entry of the default crunch table, by the generating formula of 43_fetch.md R186. -/
def crunchEntry (b : BitVec 6) : BitVec 6 :=
  let m := b + 3#6
  ((0x2A#6 &&& (b &&& m)) ||| (0x15#6 &&& (b ||| m))) - b

/-- The default `CRUNCH_TABLE` (43_fetch.md R186, PRESUMED there). -/
def defaultCrunchTable : List (BitVec 6) :=
  (List.range 64).map fun b => crunchEntry (BitVec.ofNat 6 b)

/-- The runs of set bits of 43_fetch.md R183: two consecutive set bits `i < j` are in one run iff
`j - i <= 2`. -/
def fetchRuns : List SpriteNo → List (SpriteNo × SpriteNo)
  | [] => []
  | i :: rest =>
    match fetchRuns rest with
    | [] => [(i, i)]
    | (a, b) :: more => if a.val - i.val ≤ 2 then (i, b) :: more else (i, i) :: (a, b) :: more

/-- The default list of one mask (43_fetch.md R183): a run `first..last` gives the tuple
`(2 * first, 2 * (last - first) + 5, first, last)`. -/
def defaultFetchList (m : Nat) : List FetchTuple :=
  (fetchRuns (spriteNumbers.filter fun i => m.testBit i.val)).map fun r =>
    { cycle := 2 * r.1.val, num := 2 * (r.2.val - r.1.val) + 5, first := r.1, last := r.2 }

/-- The default `SPRITE_FETCH_TABLE` (43_fetch.md R183, PRESUMED there). -/
def defaultFetchTable : List (List FetchTuple) := (List.range 256).map defaultFetchList

/-- The PAL defaults of 00_scope.md R5, R7 and the rules they name. -/
def palDefaults : Config where
  clockMax := 0xFFFFFFFF
  overflowBase := freeOverflowBase
  overflowTrigger := freeOverflowTrigger
  std := .pal
  firstDmaLine := 0x30
  lastDmaLine := 0xF7
  fetchCycle := 11
  drawCycle := 0
  spriteFetchCycle := 54
  checkSpriteDmaCycle := 53
  baLead := 3
  displayX0 := 120
  xposOffset := 0
  top25 := 0x33
  bottom25 := 0xFA
  top24 := 0x37
  bottom24 := 0xF6
  left40 := 0
  right40 := 320
  left38 := 7
  right38 := 311
  regmap := defaultRegmap
  bitmap := defaultBitmap
  always1 := defaultAlways1
  crunchTable := defaultCrunchTable
  spriteFetchTable := defaultFetchTable
  chargenWindows := [(0x1000#16, 0x1FFF#16), (0x9000#16, 0x9FFF#16)]
  snapshotVersion := { major := 1, minor := 1 }

/-- The NTSC defaults: the standard, and the sprite fetch cycle one later (00_scope.md R7; 92 D11). -/
def ntscDefaults : Config :=
  { palDefaults with std := .ntsc, spriteFetchCycle := 55, checkSpriteDmaCycle := 54 }

/-- FREE VALUE. The byte RAM holds at a time (first argument) at a (32-bit) address whose contents nothing fixes
(20_memory.md R41, 93 part 1: "an oracle indexed by address and time"; log 10). -/
opaque freeRamByte : Nat → Nat → BitVec 8

/-- FREE VALUE. The contents of the character ROM at a time (first argument) (20_memory.md R41, R44; log 10). -/
opaque freeChargenByte : Nat → Nat → BitVec 8

/-- FREE VALUE. The contents of the cartridge ROM seen under Ultimax at a time (first argument) (20_memory.md R41, R44;
log 10). -/
opaque freeRomhByte : Nat → Nat → BitVec 8

/-- FREE VALUE. Colour RAM at power-up, "each entry any byte" (70_reset_and_hazards.md R285; log 11). -/
opaque freeColorRamByte : Nat → BitVec 8

/-- FREE VALUE. The `n`-th draw of `ANY_NIBBLE()` (42_badline.md R165; log 14). -/
opaque freeNibble : Nat → BitVec 4

end Config

end Sys2Proof
end

