-- ==== Sys2Proof/WellFormed.lean ====
section
/-! DEFINITION. The checks by which an input is refused: of a transaction word (30_encoding.md R67), of the
bank operands of SET_VBANK (20_memory.md R47), of a configuration (60_exceptions.md R280). The operands of a
term of `Instr` are typed (`wc : u2`, `value : u8`), so every term of `Instr` is well formed. -/

namespace Sys2Proof

/-- The four fields of a transaction word (30_encoding.md R60). -/
structure WordFields where
  op : BitVec 2
  wc : BitVec 2
  addr : BitVec 6
  value : BitVec 8
  deriving DecidableEq, Repr

/-- 30_encoding.md R67: `wc` and `value` are 0 for READ, PEEK and EVENT; EVENT numbers 0x12..0x3F are
reserved. A WRITE word is always accepted. -/
def WordFields.wellFormed (f : WordFields) : Bool :=
  if f.op = 1#2 then true
  else f.wc = 0#2 && f.value = 0#8 && (f.op != 3#2 || f.addr.ult 0x12#6)

/-- A bank base of SET_VBANK is one of 0x0000, 0x4000, 0x8000, 0xC000: no bit outside 15:14
(20_memory.md R47). -/
def bankWellFormed (b : Addr) : Bool := b &&& 0x3FFF#16 = 0#16

/-- Bit `i` of the mask lies in `first..last` of exactly one tuple (43_fetch.md R183). -/
def coveredOnce (l : List FetchTuple) (i : SpriteNo) : Bool :=
  (l.filter fun t => t.first ≤ i && i ≤ t.last).length = 1

/-- Tuples are in ascending `cycle` with `cycle[k+1] >= cycle[k] + num[k]` (43_fetch.md R183). -/
def spacedOut : List FetchTuple → Bool
  | a :: b :: rest => a.cycle < b.cycle && a.cycle + a.num ≤ b.cycle && spacedOut (b :: rest)
  | _ => true

/-- The conditions of 43_fetch.md R183 on the list of one mask. -/
def fetchListWellFormed (c : Config) (m : Nat) (l : List FetchTuple) : Bool :=
  (m != 0 || l.isEmpty) &&
  (spriteNumbers.all fun i => !m.testBit i.val || coveredOnce l i) &&
  (l.all fun t => m.testBit t.first.val && m.testBit t.last.val && 1 ≤ t.num) &&
  spacedOut l &&
  (match l.getLast? with
    | none => true
    | some t => c.spriteFetchCycle + t.cycle + t.num ≤ c.cpl + c.fetchCycle)

/-- Every entry of the sprite fetch table is well formed, from mask `m` on. -/
def fetchTableWellFormed (c : Config) : Nat → List (List FetchTuple) → Bool
  | _, [] => true
  | m, l :: rest => fetchListWellFormed c m l && fetchTableWellFormed c (m + 1) rest

/-- 41_scheduler.md R146: `DRAW_CYCLE <= FETCH_CYCLE < CHECK_SPRITE_DMA_CYCLE <= SPRITE_FETCH_CYCLE`; the
last is a raster cycle of the line (41_scheduler.md R141; DEDUCED, log 9). -/
def cyclesWellFormed (c : Config) : Bool :=
  c.drawCycle ≤ c.fetchCycle && c.fetchCycle < c.checkSpriteDmaCycle &&
    c.checkSpriteDmaCycle ≤ c.spriteFetchCycle && c.spriteFetchCycle < c.cpl

/-- `REGMAP` has an entry for each address and an address for each register, and the three addresses that the document
fixes are the document's: the control register at 0x11, sprite enable at 0x15, the memory pointers at 0x18
(30_encoding.md R64; log 7). -/
def regmapWellFormed (c : Config) : Bool :=
  c.regmap.length = 64 && (List.range 64).all (fun r => c.regmap.contains (BitVec.ofNat 6 r)) &&
    [0x11#6, 0x15#6, 0x18#6].all fun a => c.registerAt a = a

/-- One register's bit places: each of the eight bits once (30_encoding.md R65). -/
def placesWellFormed (l : List Nat) : Bool := l.length = 8 && defaultPlaces.all fun j => l.contains j

/-- The bits whose place the document fixes: 0x11 bits 4:0, 0x15, 0x18 bits 7:3 (30_encoding.md R65, 92_eei_decisions.md
D5). -/
def fixedBits : List (RegAddr × List Nat) :=
  [(0x11, [0, 1, 2, 3, 4]), (0x15, [0, 1, 2, 3, 4, 5, 6, 7]), (0x18, [3, 4, 5, 6, 7])]

/-- The bit part of `REGMAP`: each register has eight places, the bits that the document fixes are where it has them, and
the enables of 0x1A have the positions of their sources in 0x19, "same bit positions as `VICIRQ`" (30_encoding.md R65;
log 7). -/
def bitmapWellFormed (c : Config) : Bool :=
  c.bitmap.length = 64 && c.bitmap.all placesWellFormed &&
    (fixedBits.all fun p => p.2.all fun j => (c.bitmap.getD p.1.toNat [])[j]? == some j) &&
    [0, 1, 2, 3].all fun j => (c.bitmap.getD 0x19 []).idxOf j == (c.bitmap.getD 0x1A []).idxOf j

/-- The constraints whose breach 60_exceptions.md R280 refuses: the order of the alarm cycles (R146), the
sprite fetch table (R183), `DISPLAY_X0 + 320 <= 8 * CPL` (44_renderer.md R202), the register map (R64, R65) and the
table sizes (R6). -/
def Config.wellFormed (c : Config) : Bool :=
  cyclesWellFormed c && c.displayX0 + 320 ≤ 8 * c.cpl &&
    regmapWellFormed c && bitmapWellFormed c && c.always1.length = 64 && c.crunchTable.length = 64 &&
    c.spriteFetchTable.length = 256 && fetchTableWellFormed c 0 c.spriteFetchTable

/-- A configuration together with the fact that it is well formed: an ill-formed one is "not an input of the
block" (60_exceptions.md R280) and cannot be built. -/
structure CheckedConfig extends Config where
  ok : toConfig.wellFormed = true
  deriving DecidableEq, Repr

theorem palDefaults_wellFormed : Config.palDefaults.wellFormed = true := by decide +kernel

theorem ntscDefaults_wellFormed : Config.ntscDefaults.wellFormed = true := by decide +kernel

/-- The spec's PAL configuration. -/
def CheckedConfig.pal : CheckedConfig := { Config.palDefaults with ok := palDefaults_wellFormed }

/-- The spec's NTSC configuration. -/
def CheckedConfig.ntsc : CheckedConfig := { Config.ntscDefaults with ok := ntscDefaults_wellFormed }

end Sys2Proof
end

