-- ==== Sys2Proof/Decode.lean ====
section
/-! DEFINITION. The decoder of the 18-bit transaction word, total and rejecting by name (30_encoding.md R60, R61,
R63, R67), and the encoder after it. -/

namespace Sys2Proof

/-- Why a word is refused (30_encoding.md R67). -/
inductive DecodeError where
  /-- an EVENT number 0x12..0x3F -/
  | reservedEvent (number : BitVec 6)
  /-- `wc` or `value` is not 0 in a READ, PEEK or EVENT word -/
  | nonZeroField
  deriving DecidableEq, Repr

/-- The fields of a word (30_encoding.md R60). -/
def splitWord (w : BusWord) : WordFields where
  op := w.extractLsb' 16 2
  wc := w.extractLsb' 14 2
  addr := w.extractLsb' 8 6
  value := w.extractLsb' 0 8

/-- The word of four fields (30_encoding.md R60): `op << 16 | wc << 14 | addr << 8 | value`. -/
def joinWord (f : WordFields) : BusWord := f.op ++ f.wc ++ f.addr ++ f.value

/-- READ at each address, addresses 0x00 to 0x0F. -/
def readRows0 : List Instr :=
  [.read00, .read01, .read02, .read03, .read04, .read05, .read06, .read07, .read08, .read09, .read0A, .read0B, .read0C, .read0D, .read0E, .read0F]

/-- READ at each address, addresses 0x10 to 0x1F. -/
def readRows1 : List Instr :=
  [.read10, .read11, .read12, .read13, .read14, .read15, .read16, .read17, .read18, .read19, .read1A, .read1B, .read1C, .read1D, .read1E, .read1F]

/-- READ at each address, addresses 0x20 to 0x2F. -/
def readRows2 : List Instr :=
  [.read20, .read21, .read22, .read23, .read24, .read25, .read26, .read27, .read28, .read29, .read2A, .read2B, .read2C, .read2D, .read2E, .read2F]

/-- READ at each address, addresses 0x30 to 0x3F. -/
def readRows3 : List Instr :=
  [.read30, .read31, .read32, .read33, .read34, .read35, .read36, .read37, .read38, .read39, .read3A, .read3B, .read3C, .read3D, .read3E, .read3F]

/-- READ at each address (30_encoding.md R61). -/
def readTable : List Instr :=
  readRows0 ++ readRows1 ++ readRows2 ++ readRows3

/-- PEEK at each address, addresses 0x00 to 0x0F. -/
def peekRows0 : List Instr :=
  [.peek00, .peek01, .peek02, .peek03, .peek04, .peek05, .peek06, .peek07, .peek08, .peek09, .peek0A, .peek0B, .peek0C, .peek0D, .peek0E, .peek0F]

/-- PEEK at each address, addresses 0x10 to 0x1F. -/
def peekRows1 : List Instr :=
  [.peek10, .peek11, .peek12, .peek13, .peek14, .peek15, .peek16, .peek17, .peek18, .peek19, .peek1A, .peek1B, .peek1C, .peek1D, .peek1E, .peek1F]

/-- PEEK at each address, addresses 0x20 to 0x2F. -/
def peekRows2 : List Instr :=
  [.peek20, .peek21, .peek22, .peek23, .peek24, .peek25, .peek26, .peek27, .peek28, .peek29, .peek2A, .peek2B, .peek2C, .peek2D, .peek2E, .peek2F]

/-- PEEK at each address, addresses 0x30 to 0x3F. -/
def peekRows3 : List Instr :=
  [.peek30, .peek31, .peek32, .peek33, .peek34, .peek35, .peek36, .peek37, .peek38, .peek39, .peek3A, .peek3B, .peek3C, .peek3D, .peek3E, .peek3F]

/-- PEEK at each address (30_encoding.md R61). -/
def peekTable : List Instr :=
  peekRows0 ++ peekRows1 ++ peekRows2 ++ peekRows3

/-- WRITE at each address, addresses 0x00 to 0x0F. -/
def writeRows0 (wc : BitVec 2) (v : Byte) : List Instr :=
  [.write00 wc v, .write01 wc v, .write02 wc v, .write03 wc v, .write04 wc v, .write05 wc v, .write06 wc v, .write07 wc v, .write08 wc v, .write09 wc v, .write0A wc v, .write0B wc v, .write0C wc v, .write0D wc v, .write0E wc v, .write0F wc v]

/-- WRITE at each address, addresses 0x10 to 0x1F. -/
def writeRows1 (wc : BitVec 2) (v : Byte) : List Instr :=
  [.write10 wc v, .write11 wc v, .write12 wc v, .write13 wc v, .write14 wc v, .write15 wc v, .write16 wc v, .write17 wc v, .write18 wc v, .write19 wc v, .write1A wc v, .write1B wc v, .write1C wc v, .write1D wc v, .write1E wc v, .write1F wc v]

/-- WRITE at each address, addresses 0x20 to 0x2F. -/
def writeRows2 (wc : BitVec 2) (v : Byte) : List Instr :=
  [.write20 wc v, .write21 wc v, .write22 wc v, .write23 wc v, .write24 wc v, .write25 wc v, .write26 wc v, .write27 wc v, .write28 wc v, .write29 wc v, .write2A wc v, .write2B wc v, .write2C wc v, .write2D wc v, .write2E wc v, .write2F wc v]

/-- WRITE at each address, addresses 0x30 to 0x3F. -/
def writeRows3 (wc : BitVec 2) (v : Byte) : List Instr :=
  [.write30 wc v, .write31 wc v, .write32 wc v, .write33 wc v, .write34 wc v, .write35 wc v, .write36 wc v, .write37 wc v, .write38 wc v, .write39 wc v, .write3A wc v, .write3B wc v, .write3C wc v, .write3D wc v, .write3E wc v, .write3F wc v]

/-- WRITE at each address (30_encoding.md R61). -/
def writeTable (wc : BitVec 2) (v : Byte) : List Instr :=
  writeRows0 wc v ++ writeRows1 wc v ++ writeRows2 wc v ++ writeRows3 wc v

/-- The EVENT numbers 0x00..0x11 (30_encoding.md R63). -/
def eventTable : List Instr :=
  [.eventAdvance,
   .eventHandlePendingAlarms,
   .eventFetchAlarm,
   .eventDrawAlarm,
   .eventRasterIrqAlarm,
   .eventClockOverflow,
   .eventBadlineEval,
   .eventFetchMatrix,
   .eventCheckSpriteDma,
   .eventFetchSprite,
   .eventDrawLine,
   .eventReset,
   .eventSnapshotWrite,
   .eventSnapshotLoad,
   .eventSetVbank,
   .eventSetRamBase,
   .eventLightpenTrigger,
   .eventVideoRamStore]

theorem readTable_length : readTable.length = 64 := rfl

theorem peekTable_length : peekTable.length = 64 := rfl

theorem writeTable_length (wc : BitVec 2) (v : Byte) : (writeTable wc v).length = 64 := rfl

/-- The row of a 64-row table at an address: "every (`op`, `addr`) pair has a defined meaning" (30_encoding.md R61). -/
def tableAt (t : List Instr) (h : t.length = 64) (a : RegAddr) : Instr :=
  t[a.toNat]'(lt_of_lt_of_eq a.isLt h.symm)

/-- The operation of a word's fields (30_encoding.md R61, R63, R67). -/
def decodeFields (f : WordFields) : Except DecodeError Instr :=
  if f.op = 1#2 then .ok (tableAt (writeTable f.wc f.value) (writeTable_length f.wc f.value) f.addr)
  else if f.wc ≠ 0#2 ∨ f.value ≠ 0#8 then .error .nonZeroField
  else if f.op = 0#2 then .ok (tableAt readTable readTable_length f.addr)
  else if f.op = 2#2 then .ok (tableAt peekTable peekTable_length f.addr)
  else
    match eventTable[f.addr.toNat]? with
    | some i => .ok i
    | none => .error (.reservedEvent f.addr)

/-- The operation a transaction word stands for, or why it stands for none. -/
def decode (w : BusWord) : Except DecodeError Instr := decodeFields (splitWord w)

/-- The host's view of the decoder: the low `nbits` bits of `w`, none above bit 17, as one transaction word. -/
def decodeTableWord (nbits w : Nat) : Option Instr :=
  let v := w % 2 ^ nbits
  if v < 2 ^ 18 then (decode (BitVec.ofNat 18 v)).toOption else none

/-- The fields of an operation's word: the columns `op` and `addr` of the table and its operands (30_encoding.md R60,
R63). -/
def Instr.fields : Instr → WordFields
  | .read00 => ⟨0, 0, 0x00, 0⟩
  | .read01 => ⟨0, 0, 0x01, 0⟩
  | .read02 => ⟨0, 0, 0x02, 0⟩
  | .read03 => ⟨0, 0, 0x03, 0⟩
  | .read04 => ⟨0, 0, 0x04, 0⟩
  | .read05 => ⟨0, 0, 0x05, 0⟩
  | .read06 => ⟨0, 0, 0x06, 0⟩
  | .read07 => ⟨0, 0, 0x07, 0⟩
  | .read08 => ⟨0, 0, 0x08, 0⟩
  | .read09 => ⟨0, 0, 0x09, 0⟩
  | .read0A => ⟨0, 0, 0x0A, 0⟩
  | .read0B => ⟨0, 0, 0x0B, 0⟩
  | .read0C => ⟨0, 0, 0x0C, 0⟩
  | .read0D => ⟨0, 0, 0x0D, 0⟩
  | .read0E => ⟨0, 0, 0x0E, 0⟩
  | .read0F => ⟨0, 0, 0x0F, 0⟩
  | .read10 => ⟨0, 0, 0x10, 0⟩
  | .read11 => ⟨0, 0, 0x11, 0⟩
  | .read12 => ⟨0, 0, 0x12, 0⟩
  | .read13 => ⟨0, 0, 0x13, 0⟩
  | .read14 => ⟨0, 0, 0x14, 0⟩
  | .read15 => ⟨0, 0, 0x15, 0⟩
  | .read16 => ⟨0, 0, 0x16, 0⟩
  | .read17 => ⟨0, 0, 0x17, 0⟩
  | .read18 => ⟨0, 0, 0x18, 0⟩
  | .read19 => ⟨0, 0, 0x19, 0⟩
  | .read1A => ⟨0, 0, 0x1A, 0⟩
  | .read1B => ⟨0, 0, 0x1B, 0⟩
  | .read1C => ⟨0, 0, 0x1C, 0⟩
  | .read1D => ⟨0, 0, 0x1D, 0⟩
  | .read1E => ⟨0, 0, 0x1E, 0⟩
  | .read1F => ⟨0, 0, 0x1F, 0⟩
  | .read20 => ⟨0, 0, 0x20, 0⟩
  | .read21 => ⟨0, 0, 0x21, 0⟩
  | .read22 => ⟨0, 0, 0x22, 0⟩
  | .read23 => ⟨0, 0, 0x23, 0⟩
  | .read24 => ⟨0, 0, 0x24, 0⟩
  | .read25 => ⟨0, 0, 0x25, 0⟩
  | .read26 => ⟨0, 0, 0x26, 0⟩
  | .read27 => ⟨0, 0, 0x27, 0⟩
  | .read28 => ⟨0, 0, 0x28, 0⟩
  | .read29 => ⟨0, 0, 0x29, 0⟩
  | .read2A => ⟨0, 0, 0x2A, 0⟩
  | .read2B => ⟨0, 0, 0x2B, 0⟩
  | .read2C => ⟨0, 0, 0x2C, 0⟩
  | .read2D => ⟨0, 0, 0x2D, 0⟩
  | .read2E => ⟨0, 0, 0x2E, 0⟩
  | .read2F => ⟨0, 0, 0x2F, 0⟩
  | .read30 => ⟨0, 0, 0x30, 0⟩
  | .read31 => ⟨0, 0, 0x31, 0⟩
  | .read32 => ⟨0, 0, 0x32, 0⟩
  | .read33 => ⟨0, 0, 0x33, 0⟩
  | .read34 => ⟨0, 0, 0x34, 0⟩
  | .read35 => ⟨0, 0, 0x35, 0⟩
  | .read36 => ⟨0, 0, 0x36, 0⟩
  | .read37 => ⟨0, 0, 0x37, 0⟩
  | .read38 => ⟨0, 0, 0x38, 0⟩
  | .read39 => ⟨0, 0, 0x39, 0⟩
  | .read3A => ⟨0, 0, 0x3A, 0⟩
  | .read3B => ⟨0, 0, 0x3B, 0⟩
  | .read3C => ⟨0, 0, 0x3C, 0⟩
  | .read3D => ⟨0, 0, 0x3D, 0⟩
  | .read3E => ⟨0, 0, 0x3E, 0⟩
  | .read3F => ⟨0, 0, 0x3F, 0⟩
  | .write00 wc v => ⟨1, wc, 0x00, v⟩
  | .write01 wc v => ⟨1, wc, 0x01, v⟩
  | .write02 wc v => ⟨1, wc, 0x02, v⟩
  | .write03 wc v => ⟨1, wc, 0x03, v⟩
  | .write04 wc v => ⟨1, wc, 0x04, v⟩
  | .write05 wc v => ⟨1, wc, 0x05, v⟩
  | .write06 wc v => ⟨1, wc, 0x06, v⟩
  | .write07 wc v => ⟨1, wc, 0x07, v⟩
  | .write08 wc v => ⟨1, wc, 0x08, v⟩
  | .write09 wc v => ⟨1, wc, 0x09, v⟩
  | .write0A wc v => ⟨1, wc, 0x0A, v⟩
  | .write0B wc v => ⟨1, wc, 0x0B, v⟩
  | .write0C wc v => ⟨1, wc, 0x0C, v⟩
  | .write0D wc v => ⟨1, wc, 0x0D, v⟩
  | .write0E wc v => ⟨1, wc, 0x0E, v⟩
  | .write0F wc v => ⟨1, wc, 0x0F, v⟩
  | .write10 wc v => ⟨1, wc, 0x10, v⟩
  | .write11 wc v => ⟨1, wc, 0x11, v⟩
  | .write12 wc v => ⟨1, wc, 0x12, v⟩
  | .write13 wc v => ⟨1, wc, 0x13, v⟩
  | .write14 wc v => ⟨1, wc, 0x14, v⟩
  | .write15 wc v => ⟨1, wc, 0x15, v⟩
  | .write16 wc v => ⟨1, wc, 0x16, v⟩
  | .write17 wc v => ⟨1, wc, 0x17, v⟩
  | .write18 wc v => ⟨1, wc, 0x18, v⟩
  | .write19 wc v => ⟨1, wc, 0x19, v⟩
  | .write1A wc v => ⟨1, wc, 0x1A, v⟩
  | .write1B wc v => ⟨1, wc, 0x1B, v⟩
  | .write1C wc v => ⟨1, wc, 0x1C, v⟩
  | .write1D wc v => ⟨1, wc, 0x1D, v⟩
  | .write1E wc v => ⟨1, wc, 0x1E, v⟩
  | .write1F wc v => ⟨1, wc, 0x1F, v⟩
  | .write20 wc v => ⟨1, wc, 0x20, v⟩
  | .write21 wc v => ⟨1, wc, 0x21, v⟩
  | .write22 wc v => ⟨1, wc, 0x22, v⟩
  | .write23 wc v => ⟨1, wc, 0x23, v⟩
  | .write24 wc v => ⟨1, wc, 0x24, v⟩
  | .write25 wc v => ⟨1, wc, 0x25, v⟩
  | .write26 wc v => ⟨1, wc, 0x26, v⟩
  | .write27 wc v => ⟨1, wc, 0x27, v⟩
  | .write28 wc v => ⟨1, wc, 0x28, v⟩
  | .write29 wc v => ⟨1, wc, 0x29, v⟩
  | .write2A wc v => ⟨1, wc, 0x2A, v⟩
  | .write2B wc v => ⟨1, wc, 0x2B, v⟩
  | .write2C wc v => ⟨1, wc, 0x2C, v⟩
  | .write2D wc v => ⟨1, wc, 0x2D, v⟩
  | .write2E wc v => ⟨1, wc, 0x2E, v⟩
  | .write2F wc v => ⟨1, wc, 0x2F, v⟩
  | .write30 wc v => ⟨1, wc, 0x30, v⟩
  | .write31 wc v => ⟨1, wc, 0x31, v⟩
  | .write32 wc v => ⟨1, wc, 0x32, v⟩
  | .write33 wc v => ⟨1, wc, 0x33, v⟩
  | .write34 wc v => ⟨1, wc, 0x34, v⟩
  | .write35 wc v => ⟨1, wc, 0x35, v⟩
  | .write36 wc v => ⟨1, wc, 0x36, v⟩
  | .write37 wc v => ⟨1, wc, 0x37, v⟩
  | .write38 wc v => ⟨1, wc, 0x38, v⟩
  | .write39 wc v => ⟨1, wc, 0x39, v⟩
  | .write3A wc v => ⟨1, wc, 0x3A, v⟩
  | .write3B wc v => ⟨1, wc, 0x3B, v⟩
  | .write3C wc v => ⟨1, wc, 0x3C, v⟩
  | .write3D wc v => ⟨1, wc, 0x3D, v⟩
  | .write3E wc v => ⟨1, wc, 0x3E, v⟩
  | .write3F wc v => ⟨1, wc, 0x3F, v⟩
  | .peek00 => ⟨2, 0, 0x00, 0⟩
  | .peek01 => ⟨2, 0, 0x01, 0⟩
  | .peek02 => ⟨2, 0, 0x02, 0⟩
  | .peek03 => ⟨2, 0, 0x03, 0⟩
  | .peek04 => ⟨2, 0, 0x04, 0⟩
  | .peek05 => ⟨2, 0, 0x05, 0⟩
  | .peek06 => ⟨2, 0, 0x06, 0⟩
  | .peek07 => ⟨2, 0, 0x07, 0⟩
  | .peek08 => ⟨2, 0, 0x08, 0⟩
  | .peek09 => ⟨2, 0, 0x09, 0⟩
  | .peek0A => ⟨2, 0, 0x0A, 0⟩
  | .peek0B => ⟨2, 0, 0x0B, 0⟩
  | .peek0C => ⟨2, 0, 0x0C, 0⟩
  | .peek0D => ⟨2, 0, 0x0D, 0⟩
  | .peek0E => ⟨2, 0, 0x0E, 0⟩
  | .peek0F => ⟨2, 0, 0x0F, 0⟩
  | .peek10 => ⟨2, 0, 0x10, 0⟩
  | .peek11 => ⟨2, 0, 0x11, 0⟩
  | .peek12 => ⟨2, 0, 0x12, 0⟩
  | .peek13 => ⟨2, 0, 0x13, 0⟩
  | .peek14 => ⟨2, 0, 0x14, 0⟩
  | .peek15 => ⟨2, 0, 0x15, 0⟩
  | .peek16 => ⟨2, 0, 0x16, 0⟩
  | .peek17 => ⟨2, 0, 0x17, 0⟩
  | .peek18 => ⟨2, 0, 0x18, 0⟩
  | .peek19 => ⟨2, 0, 0x19, 0⟩
  | .peek1A => ⟨2, 0, 0x1A, 0⟩
  | .peek1B => ⟨2, 0, 0x1B, 0⟩
  | .peek1C => ⟨2, 0, 0x1C, 0⟩
  | .peek1D => ⟨2, 0, 0x1D, 0⟩
  | .peek1E => ⟨2, 0, 0x1E, 0⟩
  | .peek1F => ⟨2, 0, 0x1F, 0⟩
  | .peek20 => ⟨2, 0, 0x20, 0⟩
  | .peek21 => ⟨2, 0, 0x21, 0⟩
  | .peek22 => ⟨2, 0, 0x22, 0⟩
  | .peek23 => ⟨2, 0, 0x23, 0⟩
  | .peek24 => ⟨2, 0, 0x24, 0⟩
  | .peek25 => ⟨2, 0, 0x25, 0⟩
  | .peek26 => ⟨2, 0, 0x26, 0⟩
  | .peek27 => ⟨2, 0, 0x27, 0⟩
  | .peek28 => ⟨2, 0, 0x28, 0⟩
  | .peek29 => ⟨2, 0, 0x29, 0⟩
  | .peek2A => ⟨2, 0, 0x2A, 0⟩
  | .peek2B => ⟨2, 0, 0x2B, 0⟩
  | .peek2C => ⟨2, 0, 0x2C, 0⟩
  | .peek2D => ⟨2, 0, 0x2D, 0⟩
  | .peek2E => ⟨2, 0, 0x2E, 0⟩
  | .peek2F => ⟨2, 0, 0x2F, 0⟩
  | .peek30 => ⟨2, 0, 0x30, 0⟩
  | .peek31 => ⟨2, 0, 0x31, 0⟩
  | .peek32 => ⟨2, 0, 0x32, 0⟩
  | .peek33 => ⟨2, 0, 0x33, 0⟩
  | .peek34 => ⟨2, 0, 0x34, 0⟩
  | .peek35 => ⟨2, 0, 0x35, 0⟩
  | .peek36 => ⟨2, 0, 0x36, 0⟩
  | .peek37 => ⟨2, 0, 0x37, 0⟩
  | .peek38 => ⟨2, 0, 0x38, 0⟩
  | .peek39 => ⟨2, 0, 0x39, 0⟩
  | .peek3A => ⟨2, 0, 0x3A, 0⟩
  | .peek3B => ⟨2, 0, 0x3B, 0⟩
  | .peek3C => ⟨2, 0, 0x3C, 0⟩
  | .peek3D => ⟨2, 0, 0x3D, 0⟩
  | .peek3E => ⟨2, 0, 0x3E, 0⟩
  | .peek3F => ⟨2, 0, 0x3F, 0⟩
  | .eventAdvance => ⟨3, 0, 0x00, 0⟩
  | .eventHandlePendingAlarms => ⟨3, 0, 0x01, 0⟩
  | .eventFetchAlarm => ⟨3, 0, 0x02, 0⟩
  | .eventDrawAlarm => ⟨3, 0, 0x03, 0⟩
  | .eventRasterIrqAlarm => ⟨3, 0, 0x04, 0⟩
  | .eventClockOverflow => ⟨3, 0, 0x05, 0⟩
  | .eventBadlineEval => ⟨3, 0, 0x06, 0⟩
  | .eventFetchMatrix => ⟨3, 0, 0x07, 0⟩
  | .eventCheckSpriteDma => ⟨3, 0, 0x08, 0⟩
  | .eventFetchSprite => ⟨3, 0, 0x09, 0⟩
  | .eventDrawLine => ⟨3, 0, 0x0A, 0⟩
  | .eventReset => ⟨3, 0, 0x0B, 0⟩
  | .eventSnapshotWrite => ⟨3, 0, 0x0C, 0⟩
  | .eventSnapshotLoad => ⟨3, 0, 0x0D, 0⟩
  | .eventSetVbank => ⟨3, 0, 0x0E, 0⟩
  | .eventSetRamBase => ⟨3, 0, 0x0F, 0⟩
  | .eventLightpenTrigger => ⟨3, 0, 0x10, 0⟩
  | .eventVideoRamStore => ⟨3, 0, 0x11, 0⟩

/-- The transaction word of an operation (30_encoding.md R60). -/
def encode (i : Instr) : BusWord := joinWord i.fields

end Sys2Proof
end

