-- ==== Sys2Proof/Machine/State.lean ====
section
/-! DEFINITION. The state of the block (10_state.md) as plain data, with the inputs and outputs the spec gives it,
the reasons a step can stop, and the machine after reset. Fields marked "the model's own" are not the spec's. -/

namespace Sys2Proof.Machine

/-- A byte-addressed memory: what has been written, as (address, byte) pairs with addresses strictly rising. At an
unlisted address nothing fixes the contents (logs 10, 11). -/
abbrev Memory := List Host.Cell

/-- The fetch state `fetch_idx` (10_state.md R15). -/
inductive FetchState where
  | fetchMatrix
  | checkSpriteDma
  | fetchSprite
  deriving DecidableEq, Repr

/-- The nine video modes (10_state.md R16). -/
inductive VideoMode where
  | normalText
  | multicolorText
  | hiresBitmap
  | multicolorBitmap
  | extendedText
  | illegalText
  | illegalBitmap1
  | illegalBitmap2
  | idle
  deriving DecidableEq, Repr

/-- `SpriteState`, the fields that need storage of their own (10_state.md R28). -/
structure Sprite where
  memptr : BitVec 6
  memptrInc : BitVec 6
  expFlag : Bool
  data : BitVec 24
  dataNext : BitVec 24
  pointer : Byte
  deriving DecidableEq, Repr

/-- The light pen latch (10_state.md R27). -/
structure LightPen where
  triggered : Bool
  x : Byte
  y : Byte
  deriving DecidableEq, Repr

/-- A `Target` of the deferred-change queue together with its new value (10_state.md R30). -/
inductive TargetValue where
  | xsmooth (v : BitVec 3)
  | videoMode (m : VideoMode)
  | borderColor (c : Colour)
  | backgroundColor (k : Fin 4) (c : Colour)
  | spriteMc (k : Fin 2) (c : Colour)
  | spriteColor (i : SpriteNo) (c : Colour)
  | screenBase (a : Addr)
  | charBase (a : Addr)
  | bitmapBase (a : Addr)
  | columnMode (csel : Bool)
  deriving DecidableEq, Repr

/-- An entry `(trigger_x, target, value)` of the deferred-change queue (10_state.md R30). -/
structure Change where
  triggerX : Int
  assign : TargetValue
  deriving DecidableEq, Repr

/-- One value for every `Target`: `line_start` (10_state.md R31) and `S(X)` (44_renderer.md R203). -/
structure RenderRegs where
  xsmooth : BitVec 3
  videoMode : VideoMode
  borderColor : Colour
  background : Vector Colour 4
  spriteMc : Vector Colour 2
  spriteColor : Vector Colour 8
  screenBase : Addr
  charBase : Addr
  bitmapBase : Addr
  columnMode : Bool
  deriving DecidableEq, Repr

/-- `RasterCacheLine`, one column of one line (10_state.md R32). -/
structure CacheEntry where
  valid : Bool
  mode : VideoMode
  fg : Byte
  bg : Colour
  color : BitVec 16
  mask : Byte
  pixels : List Colour
  deriving DecidableEq, Repr

/-- A delivered line `(L, out)` (44_renderer.md R230). -/
structure Delivery where
  line : BitVec 16
  pixels : List Colour
  deriving DecidableEq, Repr

/-- A snapshot `(version, body)` (45_snapshot.md R240). -/
structure Snapshot where
  version : Version
  body : List Byte
  deriving DecidableEq, Repr

/-- The reasons of `SnapshotLoadError` (60_exceptions.md R273). -/
inductive LoadError where
  | size
  | rasterPositionMismatch
  | fetchEventType
  | range
  deriving DecidableEq, Repr

/-- The messages of the log output: the warning of 60_exceptions.md R272, the load errors of R273 and R274. -/
inductive LogMessage where
  | rasterCompareOutOfRange (line : BitVec 16)
  | snapshotLoadError (reason : LoadError)
  | snapshotVersionError (version : Version)
  deriving DecidableEq, Repr

/-- The memory a VIDEO_RAM_STORE goes to (20_memory.md R52). -/
inductive StoreSpace where
  | ram
  | colorRam
  deriving DecidableEq, Repr

/-- The operands that travel beside an EVENT word (30_encoding.md R63); each operation reads its own (log 15). -/
structure HostOperands where
  /-- HANDLE_PENDING_ALARMS: `write_cycles` (41_scheduler.md R144) -/
  writeCycles : BitVec 2
  /-- CLOCK_OVERFLOW: `sub` (41_scheduler.md R153) -/
  sub : Clock
  /-- BADLINE_EVAL: `old`, `new`, `y`, `c` (42_badline.md R161) -/
  oldCr : Byte
  newCr : Byte
  line : Nat
  cycle : Nat
  /-- FETCH_MATRIX: `offset`, `count` (43_fetch.md R175) -/
  offset : Int
  count : Int
  /-- SET_VBANK: `phi1`, `phi2` (20_memory.md R47) -/
  vbankPhi1 : Addr
  vbankPhi2 : Addr
  /-- SET_RAM_BASE: `off` (20_memory.md R48) -/
  ramBase : BitVec 32
  /-- VIDEO_RAM_STORE: `space`, `a`, `v` (20_memory.md R52) -/
  space : StoreSpace
  addr : Addr
  value : Byte
  /-- SNAPSHOT_LOAD: `version`, `body` (45_snapshot.md R246) -/
  version : Version
  body : List Byte
  deriving DecidableEq, Repr

/-- All operands zero, the reset value of the operand port (DESIGN CHOICE, log 15). -/
def HostOperands.zero : HostOperands where
  writeCycles := 0
  sub := 0
  oldCr := 0
  newCr := 0
  line := 0
  cycle := 0
  offset := 0
  count := 0
  vbankPhi1 := 0
  vbankPhi2 := 0
  ramBase := 0
  space := .ram
  addr := 0
  value := 0
  version := { major := 0, minor := 0 }
  body := []

/-- A byte that the world outside the block changes in a memory provider: RAM at an address of the provider, the
character ROM, the cartridge ROM (20_memory.md R41, "an oracle indexed by address and by time"; log 10). -/
inductive MemoryChange where
  | ram (a : BitVec 32) (v : Byte)
  | chargen (k : BitVec 12) (v : Byte)
  | romh (k : BitVec 12) (v : Byte)
  deriving DecidableEq, Repr

/-- The model's own: one operation as the CPU core or the host issues it. `cycles` is how far the CPU core has moved
its clock since the previous one, `takeStolen` whether it has taken note of `stolen_cycles` and cleared it
(41_scheduler.md R156), `ultimax` the level of the ULTIMAX input (20_memory.md R46), `memory` what the memory providers
have changed since the previous one, in order (R41), `word` the transaction word (30_encoding.md R60). Logs 1, 10, 13,
15, 18. -/
structure Request where
  cycles : Clock
  takeStolen : Bool
  ultimax : Bool
  memory : List MemoryChange
  word : BusWord
  operands : HostOperands
  deriving DecidableEq, Repr

/-- What an `AssertFail` found (60_exceptions.md R270 code 4). -/
inductive AssertReason where
  /-- `steal` with a negative count (41_scheduler.md R156) -/
  | negativeSteal
  /-- FETCH_MATRIX with operands out of range (43_fetch.md R175) -/
  | fetchMatrixRange
  /-- FETCH_SPRITE with the tuple index outside its list (43_fetch.md R185) -/
  | fetchSpriteIndex
  /-- CLOCK_OVERFLOW below zero (41_scheduler.md R153) -/
  | clockOverflowBelowZero
  deriving DecidableEq, Repr

/-- Why the machine stops with no successor state. -/
inductive Fault where
  /-- `AssertFail`, raised by `steal`, FETCH_MATRIX, FETCH_SPRITE and CLOCK_OVERFLOW: the spec's own stuck state
  (60_exceptions.md R275). Safe: nothing can be proved about what follows. -/
  | assertFail (reason : AssertReason)
  /-- Raised by the alarm service loops when they have run more often than the three alarm clocks have values: an
  alarm clock has passed CLOCK_MAX, which the host must prevent (70_reset_and_hazards.md R295). Safe: the machine
  stops where the hardware's behaviour is not given. Log 5. -/
  | clockOverrun
  deriving DecidableEq, Repr

/-- Why an input is not accepted (60_exceptions.md R280). -/
inductive Refusal where
  /-- An arm of `exec` without a meaning. Raised by no arm of this model. Safe. -/
  | notModelled (mnemonic : String)
  /-- A transaction word the decoder refuses (30_encoding.md R67). Raised by `step`. Safe: "no operation, errs
  toward unprovable". -/
  | reservedWord (reason : DecodeError)
  /-- SET_VBANK with a bank value that has bits outside 15:14: "not a legal operand" (20_memory.md R47). Raised by
  SET_VBANK. Safe. -/
  | illegalBank (phi1 phi2 : Addr)
  deriving DecidableEq, Repr

/-- The whole state: `ChipState` (10_state.md R10 to R33), the clock and the memories it works on, its configuration,
its outputs (R34), and the model's own fields `inbox`, `operands`, `draws`, `memoryTime`. -/
structure State where
  /-- parameters, changed by no operation (00_scope.md R5 to R7; log 6) -/
  cfg : CheckedConfig
  /-- the CPU core's clock (R12; log 2) -/
  clk : Clock
  /-- R12 -/
  clkOrigin : Clock
  /-- R13 -/
  currentLine : BitVec 16
  /-- R14 -/
  fetchClk : Clock
  /-- R14 -/
  drawClk : Clock
  /-- R14 -/
  rasterIrqClk : Clock
  /-- R15 -/
  fetchIdx : FetchState
  /-- R15 -/
  spriteFetchMsk : Byte
  /-- R15 -/
  spriteFetchIdx : Nat
  /-- R15 -/
  spriteFetchBase : Clock
  /-- R11; each register under its address in the default map (log 7) -/
  regs : Vector Byte 64
  /-- R16 -/
  videoMode : VideoMode
  /-- R17 -/
  idleState : Bool
  /-- R17 -/
  badLine : Bool
  /-- R17 -/
  allowBadLines : Bool
  /-- R17 -/
  blank : Bool
  /-- R17, 42_badline.md R170 -/
  forceDisplayState : Bool
  /-- R18 -/
  ycounter : BitVec 3
  /-- R19, Vc -/
  memCounter : BitVec 10
  /-- R19, VcBase -/
  memptr : BitVec 10
  /-- R19, VcAdd -/
  memCounterInc : Byte
  /-- R20 -/
  vbuf : Vector Byte 40
  /-- R20 -/
  cbuf : Vector Byte 40
  /-- R20 -/
  backgroundColorSource : Byte
  /-- R20 -/
  idleData : Byte
  /-- R21 -/
  colorRam : Memory
  /-- R22 -/
  vbankPhi1 : Addr
  /-- R22 -/
  vbankPhi2 : Addr
  /-- R22 -/
  ramBaseOffset : BitVec 32
  /-- R24 -/
  irqStatus : Byte
  /-- R24 -/
  rasterIrqLine : BitVec 16
  /-- R24, R34 -/
  irqLine : Bool
  /-- R25 -/
  spriteSpriteCollisions : Byte
  /-- R25 -/
  spriteBackgroundCollisions : Byte
  /-- R26 -/
  lastRead : Byte
  /-- R27 -/
  lightPen : LightPen
  /-- R28 -/
  sprites : Vector Sprite 8
  /-- R29 -/
  newSpriteDmaMask : Byte
  /-- R29 -/
  spriteDmaMask : Byte
  /-- R30, oldest first -/
  changes : List Change
  /-- R31 -/
  lineStart : RenderRegs
  /-- R32: the lines with valid entries, lines rising; a line not listed has every entry invalid (log 23) -/
  cache : List (Nat × List CacheEntry)
  /-- 44_renderer.md R207, the columns of the line last drawn that needed redrawing; read by nothing (log 23) -/
  dirtyRange : Option (Nat × Nat)
  /-- R33 -/
  borderTop : BitVec 16
  /-- R33 -/
  borderBottom : BitVec 16
  /-- R33 -/
  verticalBorder : Bool
  /-- 20_memory.md R41, the memory provider's RAM (log 10) -/
  ram : Memory
  /-- 20_memory.md R41, the character ROM (log 10) -/
  chargen : Memory
  /-- 20_memory.md R41, the cartridge ROM (log 10) -/
  romh : Memory
  /-- the model's own: the time at which the contents that nothing fixes are taken, one later with each operation
  (20_memory.md R41; log 10) -/
  memoryTime : Nat
  /-- 20_memory.md R46, the ULTIMAX input (log 13) -/
  ultimax : Bool
  /-- R34, output: the result of READ and PEEK (log 18) -/
  readData : Byte
  /-- R34, output -/
  stolenCycles : Nat
  /-- R34, output: the delivered lines, oldest first (log 18) -/
  lines : List Delivery
  /-- R34, output: the messages, oldest first (log 18) -/
  log : List LogMessage
  /-- 45_snapshot.md R244, output: the result of the last SNAPSHOT_WRITE (log 18) -/
  snapshotOut : Option Snapshot
  /-- 44_renderer.md R200, output: the result `(line_ss, line_sb)` of the last DRAW_LINE (log 17) -/
  lineCollisions : Byte × Byte
  /-- the model's own: the operations issued and not yet taken, first to be taken first (log 1) -/
  inbox : List Request
  /-- the model's own: the operands beside the word of the operation taken (log 15) -/
  operands : HostOperands
  /-- the model's own: the number of free values drawn by ANY_NIBBLE (log 14) -/
  draws : Nat
  deriving DecidableEq, Repr

/-- Every sprite field after reset (10_state.md R36). -/
def Sprite.reset : Sprite where
  memptr := 0
  memptrInc := 0
  expFlag := false
  data := 0
  dataNext := 0
  pointer := 0

/-- The line-start values derived from zeroed registers with both bank selectors 0 (10_state.md R36). -/
def RenderRegs.reset : RenderRegs where
  xsmooth := 0
  videoMode := .normalText
  borderColor := 0
  background := Vector.replicate 4 0
  spriteMc := Vector.replicate 2 0
  spriteColor := Vector.replicate 8 0
  screenBase := 0
  charBase := 0
  bitmapBase := 0
  columnMode := false

/-- The machine right after power-up and RESET (10_state.md R36, 70_reset_and_hazards.md R285, R286), with the PAL
defaults and the CPU clock at 0. Values no rule gives are named in log 19. -/
def State.reset : State where
  cfg := CheckedConfig.pal
  clk := 0
  clkOrigin := 0
  currentLine := 0
  fetchClk := 11
  drawClk := 63
  rasterIrqClk := 19656
  fetchIdx := .fetchMatrix
  spriteFetchMsk := 0
  spriteFetchIdx := 0
  spriteFetchBase := 0
  regs := Vector.replicate 64 0
  videoMode := .normalText
  idleState := true
  badLine := false
  allowBadLines := false
  blank := true
  forceDisplayState := false
  ycounter := 0
  memCounter := 0
  memptr := 0
  memCounterInc := 0
  vbuf := Vector.replicate 40 0
  cbuf := Vector.replicate 40 0
  backgroundColorSource := 0
  idleData := 0
  colorRam := []
  vbankPhi1 := 0
  vbankPhi2 := 0
  ramBaseOffset := 0
  irqStatus := 0
  rasterIrqLine := 0
  irqLine := false
  spriteSpriteCollisions := 0
  spriteBackgroundCollisions := 0
  lastRead := 0
  lightPen := { triggered := false, x := 0, y := 0 }
  sprites := Vector.replicate 8 Sprite.reset
  newSpriteDmaMask := 0
  spriteDmaMask := 0
  changes := []
  lineStart := RenderRegs.reset
  cache := []
  dirtyRange := none
  borderTop := 0x37
  borderBottom := 0xF6
  verticalBorder := true
  ram := []
  chargen := []
  romh := []
  memoryTime := 0
  ultimax := false
  readData := 0
  stolenCycles := 0
  lines := []
  log := []
  snapshotOut := none
  lineCollisions := (0, 0)
  inbox := []
  operands := HostOperands.zero
  draws := 0

end Sys2Proof.Machine
end

