-- ==== Sys2Proof/Machine/Flags.lean ====
section
/-! DEFINITION. The flags and derived values the spec computes, as functions of the values they depend on: the
interrupt request, the bad-line condition, the video mode, the bit-field helpers they use. -/

namespace Sys2Proof.Machine

/-- The byte whose bit `i` is `f i`, for the eight sprites. -/
def maskOf (f : SpriteNo → Bool) : Byte :=
  spriteNumbers.foldl (fun m i => if f i then m ||| (1#8 <<< i.val) else m) 0#8

/-- Bit `i` of a sprite mask. -/
def spriteBit (m : Byte) (i : SpriteNo) : Bool := m.getLsbD i.val

/-- The four interrupt sources, by the bit they have in `irq_status` (60_exceptions.md R256). -/
inductive IrqSource where
  | irst
  | imbc
  | immc
  | ilp
  deriving DecidableEq, Repr

/-- The source's bit in `irq_status` and in the mask (60_exceptions.md R256). -/
def IrqSource.mask : IrqSource → Byte
  | .irst => 0x01#8
  | .imbc => 0x02#8
  | .immc => 0x04#8
  | .ilp => 0x08#8

/-- The level of `irq_line`: some source is both pending and enabled (60_exceptions.md R259). -/
def irqRequest (status mask : Byte) : Bool := status &&& mask &&& 0x0F#8 != 0#8

/-- `COND(cr, y)`, the bad-line condition (42_badline.md R160). -/
def badLineCondition (c : Config) (cr : Byte) (y : Nat) : Bool :=
  cr.getLsbD 4 && cr.extractLsb' 0 3 == BitVec.ofNat 3 y && c.firstDmaLine ≤ y && y ≤ c.lastDmaLine

/-- `MODE(ecm, bmm, mcm)` (40_register_file.md R119). -/
def modeOf (ecm bmm mcm : Bool) : VideoMode :=
  match ecm, bmm, mcm with
  | false, false, false => .normalText
  | false, false, true => .multicolorText
  | false, true, false => .hiresBitmap
  | false, true, true => .multicolorBitmap
  | true, false, false => .extendedText
  | true, false, true => .illegalText
  | true, true, false => .illegalBitmap1
  | true, true, true => .illegalBitmap2

/-- The video mode of the two control registers: ECM and BMM are bits 6 and 5 of CR1, MCM is bit 4 of CR2
(30_encoding.md R65, 10_state.md R16). -/
def modeOfRegs (cr1 cr2 : Byte) : VideoMode := modeOf (cr1.getLsbD 6) (cr1.getLsbD 5) (cr2.getLsbD 4)

/-- The programmed compare value `{regs[0x11][7], regs[0x12]}` (40_register_file.md R96). -/
def compareLine (cr1 raster : Byte) : BitVec 16 :=
  (if cr1.getLsbD 7 then 0x100#16 else 0#16) ||| raster.setWidth 16

/-- A clock and a number of cycles later, modulo 2^32 (00_scope.md R8). -/
def later (t : Clock) (n : Nat) : Clock := t + BitVec.ofNat 32 n

/-- A clock and an offset that may be negative, modulo 2^32 (00_scope.md R8; 43_fetch.md R183). -/
def offsetBy (t : Clock) (n : Int) : Clock := t + BitVec.ofInt 32 n

end Sys2Proof.Machine
end

