-- ==== Sys2Proof/Machine/Ops.lean ====
section
/-! DEFINITION. The named operations over memory and registers, the stealing of cycles, and the interrupt request
with its acknowledge (60_exceptions.md R255 to R269): all that this block does in place of taking an exception and
returning from one (R268, R269). -/

namespace Sys2Proof.Machine

/-- Addresses are strictly rising: the one canonical form of a memory (log 10). -/
def Memory.wf : Memory → Bool
  | [] => true
  | [_] => true
  | (a, _) :: (b, v) :: rest => decide (a < b) && Memory.wf ((b, v) :: rest)

/-- The byte written at an address, if one has been written. -/
def Memory.lookup : Memory → Nat → Option Byte
  | [], _ => none
  | (k, v) :: rest, a => if k = a then some v else Memory.lookup rest a

/-- Write one byte, keeping the addresses rising. -/
def Memory.store : Memory → Nat → Byte → Memory
  | [], a, b => [(a, b)]
  | (k, v) :: rest, a, b =>
    if a < k then (a, b) :: (k, v) :: rest
    else if a = k then (a, b) :: rest
    else (k, v) :: Memory.store rest a b

/-- The byte RAM holds at an address of the memory provider (20_memory.md R41; log 10). -/
def State.ramByte (s : State) (a : Nat) : Byte :=
  (Memory.lookup s.ram a).getD (Config.freeRamByte s.memoryTime a)

/-- `CHARGEN[k]` (20_memory.md R41; log 10). -/
def State.chargenByte (s : State) (k : Nat) : Byte :=
  (Memory.lookup s.chargen k).getD (Config.freeChargenByte s.memoryTime k)

/-- `ROMH[k]` (20_memory.md R41; log 10). -/
def State.romhByte (s : State) (k : Nat) : Byte :=
  (Memory.lookup s.romh k).getD (Config.freeRomhByte s.memoryTime k)

/-- `MemRead(COLORRAM, a, 1)` (20_memory.md R41; log 11). -/
def State.colorByte (s : State) (a : BitVec 10) : Byte :=
  (Memory.lookup s.colorRam a.toNat).getD (Config.freeColorRamByte a.toNat)

/-- The provider's RAM address of a fetch address, `ram_base_offset + a` as a `u32` (20_memory.md R41; log 12). -/
def State.ramAddress (s : State) (a : Addr) : Nat := (s.ramBaseOffset + a.setWidth 32).toNat

/-- The address lies in a window of `CHARGEN_WINDOWS` (20_memory.md R45). -/
def inChargenWindow (c : Config) (a : Addr) : Bool := c.chargenWindows.any fun w => w.1 ≤ a && a ≤ w.2

/-- `MemRead(PHI1, a, 1)`: the provider that owns `a`, in the priority of 20_memory.md R41. -/
def State.phi1Read (s : State) (a : Addr) : Byte :=
  if s.ultimax && a.extractLsb' 12 2 == 3#2 then s.romhByte (a.extractLsb' 0 12).toNat
  else if inChargenWindow s.cfg.toConfig a then s.chargenByte (a.extractLsb' 0 12).toNat
  else s.ramByte (s.ramAddress a)

/-- A change as RAM sees it (20_memory.md R41; log 10). -/
def MemoryChange.onRam (m : Memory) : MemoryChange → Memory
  | .ram a v => Memory.store m a.toNat v
  | .chargen _ _ => m
  | .romh _ _ => m

/-- A change as the character ROM sees it. -/
def MemoryChange.onChargen (m : Memory) : MemoryChange → Memory
  | .ram _ _ => m
  | .chargen k v => Memory.store m k.toNat v
  | .romh _ _ => m

/-- A change as the cartridge ROM sees it. -/
def MemoryChange.onRomh (m : Memory) : MemoryChange → Memory
  | .ram _ _ => m
  | .chargen _ _ => m
  | .romh k v => Memory.store m k.toNat v

/-- The changes the memory providers make between two operations, in order, and the time going on: what no change and
no store fixes is as it may be (20_memory.md R41; log 10). -/
def State.changeMemory (s : State) (l : List MemoryChange) : State :=
  { s with
    ram := l.foldl MemoryChange.onRam s.ram
    chargen := l.foldl MemoryChange.onChargen s.chargen
    romh := l.foldl MemoryChange.onRomh s.romh
    memoryTime := s.memoryTime + 1 }

/-- The store of VIDEO_RAM_STORE by the memory provider (20_memory.md R52). -/
def State.storeRam (s : State) (a : Addr) (v : Byte) : State :=
  { s with ram := Memory.store s.ram (s.ramAddress a) v }

/-- `color_ram[a] <- v` (20_memory.md R52). -/
def State.storeColor (s : State) (a : BitVec 10) (v : Byte) : State :=
  { s with colorRam := Memory.store s.colorRam a.toNat v }

/-- `regs[a]` (10_state.md R11), the register known by `a` (log 7). -/
def State.reg (s : State) (a : RegAddr) : Byte := s.regs[a.toFin]

/-- `regs[a] <- v` (10_state.md R11), the register known by `a` (log 7). -/
def State.setReg (s : State) (a : RegAddr) (v : Byte) : State :=
  { s with regs := s.regs.set a.toNat v a.isLt }

/-- The end of a READ: the byte returned becomes the read data and `last_read` (10_state.md R26, R34). -/
def State.returnRead (s : State) (v : Byte) : State := { s with readData := v, lastRead := v }

/-- The end of a PEEK: the byte returned becomes the read data; nothing else changes (40_register_file.md R81). -/
def State.returnPeek (s : State) (v : Byte) : State := { s with readData := v }

/-- `steal(n)`: the CPU clock moves on and the count is reported (41_scheduler.md R156). -/
def steal (n : Int) (s : State) : Except Fault State :=
  if n < 0 then .error (.assertFail .negativeSteal)
  else .ok { s with clk := later s.clk n.toNat, stolenCycles := s.stolenCycles + n.toNat }

/-- `UPDATE_IRQ_LINE()` (60_exceptions.md R259). -/
def updateIrqLine (s : State) : State := { s with irqLine := irqRequest s.irqStatus (s.reg 0x1A) }

/-- `RAISE_IRQ(src)` (60_exceptions.md R258): the block's whole part in a trap entry (R268). -/
def raiseIrq (src : IrqSource) (s : State) : State :=
  updateIrqLine { s with irqStatus := s.irqStatus ||| src.mask }

/-- The acknowledge (60_exceptions.md R265): the pending bits that the last read returned are cleared. -/
def acknowledgeIrq (s : State) : State :=
  updateIrqLine { s with irqStatus := s.irqStatus &&& ~~~(s.lastRead &&& 0x0F#8) }

/-- One message to the log output (10_state.md R34). -/
def State.logMessage (s : State) (m : LogMessage) : State := { s with log := s.log ++ [m] }

/-- The answer of an operation as the host reads it. -/
def answer (r : Except Fault State) : Host.Outcome State Fault Refusal :=
  match r with
  | .ok s => .next s
  | .error f => .fault f

end Sys2Proof.Machine
end

