-- ==== Sys2Proof/Machine/Operands.lean ====
section
/-! DEFINITION. What the operations read: the raster position, the views of the registers, the addresses of the
memory-pointer resolver, the deferred-change queue, and the request the next step takes. -/

namespace Sys2Proof.Machine

/-- `RASTER_CYCLE(t)` (41_scheduler.md R141), with the integer remainder for a `t` before `clk_origin` (log 3). -/
def State.rasterCycle (s : State) (t : Int) : Nat := ((t - s.clkOrigin.toNat) % s.cfg.cpl).toNat

/-- `RASTER_Y(t)` (41_scheduler.md R141), with the integer quotient for a `t` before `clk_origin` (log 3). -/
def State.rasterY (s : State) (t : Int) : Nat :=
  ((t - s.clkOrigin.toNat) / s.cfg.cpl % s.cfg.screenHeight).toNat

/-- `RASTER_CYCLE(clk)`, the cycle of the transaction (10_state.md R13). -/
def State.cycleNow (s : State) : Nat := s.rasterCycle s.clk.toNat

/-- `RASTER_Y(clk)`, the line of the transaction. -/
def State.lineNow (s : State) : Nat := s.rasterY s.clk.toNat

/-- `line_start(t) = t - RASTER_CYCLE(t)` (41_scheduler.md, opening). -/
def State.lineStartOf (s : State) (t : Clock) : Clock := t - BitVec.ofNat 32 (s.rasterCycle t.toNat)

/-- `TRIGGER_X(t)` (40_register_file.md R131). -/
def State.triggerX (s : State) (t : Clock) : Int :=
  8 * (((t.toNat : Int) - s.clkOrigin.toNat - s.currentLine.toNat * s.cfg.cpl) % s.cfg.frame) + s.cfg.xposOffset

/-! Views of the registers (10_state.md R28, 30_encoding.md R65). -/

/-- The address of `SPnX`, `2 * n`. -/
def spriteXAddr (i : SpriteNo) : RegAddr := BitVec.ofNat 6 (2 * i.val)

/-- The address of `SPnY`, `2 * n + 1`. -/
def spriteYAddr (i : SpriteNo) : RegAddr := BitVec.ofNat 6 (2 * i.val + 1)

/-- `sprite[i].x`, nine bits (40_register_file.md R84). -/
def State.spriteX (s : State) (i : SpriteNo) : BitVec 9 :=
  BitVec.ofBool (spriteBit (s.reg 0x10) i) ++ s.reg (spriteXAddr i)

/-- `sprite[i].y` (40_register_file.md R85). -/
def State.spriteY (s : State) (i : SpriteNo) : Byte := s.reg (spriteYAddr i)

/-- `sprite[i].enabled`. -/
def State.spriteEnabled (s : State) (i : SpriteNo) : Bool := spriteBit (s.reg 0x15) i

/-- `sprite[i].y_expanded`. -/
def State.spriteYExpanded (s : State) (i : SpriteNo) : Bool := spriteBit (s.reg 0x17) i

/-- `sprite[i].priority`, 1 = behind the foreground. -/
def State.spritePriority (s : State) (i : SpriteNo) : Bool := spriteBit (s.reg 0x1B) i

/-- `sprite[i].multicolor`. -/
def State.spriteMulticolor (s : State) (i : SpriteNo) : Bool := spriteBit (s.reg 0x1C) i

/-- `sprite[i].x_expanded`. -/
def State.spriteXExpanded (s : State) (i : SpriteNo) : Bool := spriteBit (s.reg 0x1D) i

/-- `sprite[i].dma_active`. -/
def State.spriteDmaActive (s : State) (i : SpriteNo) : Bool := spriteBit s.newSpriteDmaMask i

/-- The colour index of a colour register, its low nibble (30_encoding.md R65). -/
def State.colour (s : State) (a : RegAddr) : Colour := (s.reg a).extractLsb' 0 4

/-! The memory-pointer resolver (40_register_file.md R126 to R128). -/

/-- `SCREEN_ADDR()` (R126). -/
def State.screenAddr (s : State) : Addr := s.vbankPhi1 ||| ((s.reg 0x18 &&& 0xF0#8).setWidth 16 <<< 6)

/-- `CHAR_ADDR()` (R127). -/
def State.charAddr (s : State) : Addr := s.vbankPhi1 ||| ((s.reg 0x18 &&& 0x0E#8).setWidth 16 <<< 10)

/-- `BITMAP_ADDR()` (R128). -/
def State.bitmapAddr (s : State) : Addr := s.vbankPhi1 ||| ((s.reg 0x18 &&& 0x08#8).setWidth 16 <<< 10)

/-- Byte `p` of the video matrix (43_fetch.md R187). -/
def State.matrixByte (s : State) (p : BitVec 10) : Byte := s.phi1Read (s.screenAddr + p.setWidth 16)

/-- The value of every target as the registers and the resolver give it (44_renderer.md R204). -/
def State.renderFromRegs (s : State) : RenderRegs where
  xsmooth := (s.reg 0x16).extractLsb' 0 3
  videoMode := modeOfRegs (s.reg 0x11) (s.reg 0x16)
  borderColor := s.colour 0x20
  background := #v[s.colour 0x21, s.colour 0x22, s.colour 0x23, s.colour 0x24]
  spriteMc := #v[s.colour 0x25, s.colour 0x26]
  spriteColor := #v[s.colour 0x27, s.colour 0x28, s.colour 0x29, s.colour 0x2A, s.colour 0x2B, s.colour 0x2C,
    s.colour 0x2D, s.colour 0x2E]
  screenBase := s.screenAddr
  charBase := s.charAddr
  bitmapBase := s.bitmapAddr
  columnMode := (s.reg 0x16).getLsbD 3

/-! The deferred-change queue (40_register_file.md R130, 44_renderer.md R203). -/

/-- The registers with one target set. -/
def RenderRegs.assign (r : RenderRegs) : TargetValue → RenderRegs
  | .xsmooth v => { r with xsmooth := v }
  | .videoMode m => { r with videoMode := m }
  | .borderColor c => { r with borderColor := c }
  | .backgroundColor k c => { r with background := r.background.set k c }
  | .spriteMc k c => { r with spriteMc := r.spriteMc.set k c }
  | .spriteColor i c => { r with spriteColor := r.spriteColor.set i c }
  | .screenBase a => { r with screenBase := a }
  | .charBase a => { r with charBase := a }
  | .bitmapBase a => { r with bitmapBase := a }
  | .columnMode b => { r with columnMode := b }

/-- `S(X)`: `line_start` with every entry applied whose `trigger_x <= X`, in queue order (44_renderer.md R203). -/
def State.renderAt (s : State) (x : Int) : RenderRegs :=
  s.changes.foldl (fun r c => if c.triggerX ≤ x then r.assign c.assign else r) s.lineStart

/-- `S(+infinity)`, every queued entry applied: the line-start values of the next line (44_renderer.md R204) and
`VALUE_NOW` of 40_register_file.md R129. -/
def State.renderEnd (s : State) : RenderRegs :=
  s.changes.foldl (fun r c => r.assign c.assign) s.lineStart

/-- `ADD_CHANGE(target, value)` (40_register_file.md R130). -/
def addChange (v : TargetValue) (s : State) : State :=
  { s with changes := s.changes ++ [{ triggerX := s.triggerX s.clk, assign := v }] }

/-- `ADD_CHANGE` under a condition, the form in which the write handlers use it. -/
def addChangeIf (b : Bool) (v : TargetValue) (s : State) : State := if b then addChange v s else s

/-- `RESOLVE_POINTERS()` (40_register_file.md R129). -/
def resolvePointers (s : State) : State :=
  let s1 := addChangeIf (s.screenAddr != s.renderEnd.screenBase) (.screenBase s.screenAddr) s
  let s2 := addChangeIf (s1.charAddr != s1.renderEnd.charBase) (.charBase s1.charAddr) s1
  addChangeIf (s2.bitmapAddr != s2.renderEnd.bitmapBase) (.bitmapBase s2.bitmapAddr) s2

/-! The raster compare (40_register_file.md R96). -/

/-- Arm or disarm the raster alarm for the compare value of the registers: rule R96 without its immediate trigger. -/
def armRasterCompare (s : State) : State :=
  let line := compareLine (s.reg 0x11) (s.reg 0x12)
  if s.cfg.screenHeight ≤ line.toNat then
    { s with rasterIrqLine := line, rasterIrqClk := s.cfg.clockMax }.logMessage (.rasterCompareOutOfRange line)
  else
    let t := later s.clkOrigin (line.toNat * s.cfg.cpl)
    { s with
      rasterIrqLine := line
      rasterIrqClk := if t ≤ s.clk then later t s.cfg.frame else t }

/-- `UPDATE_RASTER_COMPARE()` (40_register_file.md R96). -/
def updateRasterCompare (s : State) : State :=
  let line := compareLine (s.reg 0x11) (s.reg 0x12)
  let s1 := armRasterCompare s
  if line.toNat < s.cfg.screenHeight ∧ line ≠ s.rasterIrqLine ∧ line.toNat = s.lineNow then raiseIrq .irst s1
  else s1

/-! The next operation (log 1). -/

/-- The word as the handlers see it: a READ, WRITE or PEEK goes to the register that lives at its address, the byte of a
WRITE with its bits at that register's places ("a rule written for address 0x16 holds for whatever address `REGMAP`
gives `CR2`", 40_register_file.md; 30_encoding.md R64, R65; log 7). -/
def State.busWord (s : State) (w : BusWord) : BusWord :=
  let f := splitWord w
  if f.op = 3#2 then w
  else
    let r := s.cfg.registerAt f.addr
    joinWord { f with addr := r, value := if f.op = 1#2 then s.cfg.registerByte r f.value else f.value }

/-- The register whose bit places an acknowledge uses (40_register_file.md R100). -/
def irqRegister : RegAddr := 0x19

/-- The read data on the bus after the operation `f`, a word as the handlers see it: a READ or a PEEK has the register's
bits at their places; the byte a READ returns is what an acknowledge finds pending bits in, at the places they have in
`VICIRQ` (30_encoding.md R65, 10_state.md R26; log 7). -/
def State.present (f : WordFields) (s : State) : State :=
  if f.op = 0#2 then
    let b := s.cfg.busByte f.addr s.readData
    { s with readData := b, lastRead := s.cfg.registerByte irqRegister b }
  else if f.op = 2#2 then { s with readData := s.cfg.busByte f.addr s.readData }
  else s

/-- Take a request: the memory providers have made their changes, the CPU core's clock has moved on by `cycles`, it has
cleared `stolen_cycles` if it says so, the ULTIMAX input is as driven, and the operands stand beside the word. -/
def State.accept (s : State) (r : Request) (rest : List Request) : State :=
  { s.changeMemory r.memory with
    inbox := rest
    clk := s.clk + r.cycles
    stolenCycles := if r.takeStolen then 0 else s.stolenCycles
    ultimax := r.ultimax
    operands := r.operands }

/-- The request that `State.withFetchWord` places: the word, with no cycle passed and everything else unchanged. -/
def State.plainRequest (s : State) (w : BusWord) : Request where
  cycles := 0
  takeStolen := false
  ultimax := s.ultimax
  memory := []
  word := w
  operands := s.operands

end Sys2Proof.Machine
end

