-- ==== Sys2Proof/Machine/Fetch.lean ====
section
/-! DEFINITION. The matrix fetch unit and the sprite DMA scheduler (43_fetch.md). -/

namespace Sys2Proof.Machine

/-- The columns `offset .. offset + count - 1` of `FETCH_MATRIX(offset, count)` (43_fetch.md R175, R176): column `c`
takes the matrix position `(mem_counter + c) mod 1024`. -/
def fetchColumns (offset count : Nat) (s : State) : State :=
  { s with
    vbuf := Vector.ofFn fun c : Fin 40 =>
      if offset ≤ c.val ∧ c.val < offset + count then s.matrixByte (s.memCounter + BitVec.ofNat 10 c.val)
      else s.vbuf[c]
    cbuf := Vector.ofFn fun c : Fin 40 =>
      if offset ≤ c.val ∧ c.val < offset + count then s.colorByte (s.memCounter + BitVec.ofNat 10 c.val)
      else s.cbuf[c]
    backgroundColorSource :=
      if 0 < count then s.matrixByte (s.memCounter + BitVec.ofNat 10 (offset + count - 1))
      else s.backgroundColorSource }

/-- `FETCH_MATRIX(offset, count)` (43_fetch.md R175). -/
def fetchMatrix (offset count : Int) (s : State) : Except Fault State :=
  if 0 ≤ offset ∧ 0 ≤ count ∧ offset + count ≤ (textCols : Int) then .ok (fetchColumns offset.toNat count.toNat s)
  else .error (.assertFail .fetchMatrixRange)

/-- The pointer increment of a row: 3, or 0 on a row that is shown again (43_fetch.md R181, R182). -/
def rowIncrement (expFlag : Bool) : BitVec 6 := if expFlag then 3#6 else 0#6

/-- `SPRITE_DMA_ON(i)`, the fields of the sprite (43_fetch.md R181). -/
def spriteDmaOn (yExpanded : Bool) (sp : Sprite) : Sprite :=
  { sp with memptr := 0, expFlag := !yExpanded, memptrInc := rowIncrement (!yExpanded) }

/-- `SPRITE_DMA_ADVANCE(i)`, the fields of the sprite (43_fetch.md R182); the addition is modulo 64 (90 C2). -/
def spriteDmaAdvance (yExpanded : Bool) (sp : Sprite) : Sprite :=
  let flag := if yExpanded then !sp.expFlag else sp.expFlag
  { sp with memptr := sp.memptr + sp.memptrInc, expFlag := flag, memptrInc := rowIncrement flag }

/-- The sprite is enabled and its Y register matches the current line (43_fetch.md R180). -/
def State.spriteStarts (s : State) (i : SpriteNo) : Bool :=
  s.spriteEnabled i && s.spriteY i == s.currentLine.extractLsb' 0 8

/-- `CHECK_SPRITE_DMA()` (43_fetch.md R180). -/
def checkSpriteDma (s : State) : State :=
  { s with
    newSpriteDmaMask := maskOf fun i =>
      if s.spriteDmaActive i then (spriteDmaAdvance (s.spriteYExpanded i) s.sprites[i]).memptr != 63#6
      else s.spriteStarts i
    sprites := Vector.ofFn fun i : SpriteNo =>
      if s.spriteDmaActive i then spriteDmaAdvance (s.spriteYExpanded i) s.sprites[i]
      else if s.spriteStarts i then spriteDmaOn (s.spriteYExpanded i) s.sprites[i]
      else s.sprites[i] }

/-- The sprite's pointer byte, from the top 8 bytes of the video matrix (43_fetch.md R185, R187). -/
def State.spritePointerByte (s : State) (i : SpriteNo) : Byte := s.matrixByte (BitVec.ofNat 10 (0x3F8 + i.val))

/-- Data byte `k` of a sprite with pointer `p` (43_fetch.md R185, R187): `vbank | (p * 64 + (memptr + k) mod 64)`. -/
def State.spriteDataByte (s : State) (p : Byte) (memptr : BitVec 6) (k : Nat) : Byte :=
  s.phi1Read (s.vbankPhi1 ||| (p.setWidth 16 <<< 6 ||| (memptr + BitVec.ofNat 6 k).setWidth 16))

/-- The 24-bit word of the three data bytes, the first in bits 23:16 (20_memory.md R49, 43_fetch.md R185). -/
def State.spriteWord (s : State) (i : SpriteNo) : BitVec 24 :=
  let p := s.spritePointerByte i
  let m := s.sprites[i].memptr
  s.spriteDataByte p m 0 ++ s.spriteDataByte p m 1 ++ s.spriteDataByte p m 2

/-- Cycle 0 of the line of the check that started the list in progress (43_fetch.md R185, `Lc`). -/
def State.spriteCheckLine (s : State) : Clock := s.spriteFetchBase - BitVec.ofNat 32 s.cfg.spriteFetchCycle

/-- The draw alarm of the check's line has run: `t > Lc + CPL + DRAW_CYCLE` (43_fetch.md R185). -/
def State.fetchAfterDraw (s : State) : Bool :=
  (later s.spriteCheckLine (s.cfg.cpl + s.cfg.drawCycle)).ult s.fetchClk

/-- The bytes one tuple fetches (43_fetch.md R185). -/
def fetchTupleSprites (t : FetchTuple) (s : State) : State :=
  { s with
    sprites := Vector.ofFn fun i : SpriteNo =>
      let sp := s.sprites[i]
      if t.first ≤ i ∧ i ≤ t.last ∧ spriteBit s.spriteFetchMsk i = true then
        { sp with
          pointer := s.spritePointerByte i
          dataNext := s.spriteWord i
          data := if s.fetchAfterDraw then s.spriteWord i else sp.data }
      else sp }

/-- The next tuple of the list, or back to the matrix fetch of the next line (43_fetch.md R185). -/
def nextTuple (s : State) : State :=
  match (s.cfg.fetchList s.spriteFetchMsk)[s.spriteFetchIdx + 1]? with
  | some t => { s with spriteFetchIdx := s.spriteFetchIdx + 1, fetchClk := offsetBy s.spriteFetchBase t.cycle }
  | none =>
    { s with
      spriteFetchIdx := s.spriteFetchIdx + 1
      fetchIdx := .fetchMatrix
      fetchClk := later s.spriteCheckLine (s.cfg.cpl + s.cfg.fetchCycle) }

/-- `FETCH_SPRITE()` (43_fetch.md R185). -/
def fetchSprite (s : State) : Except Fault State :=
  match (s.cfg.fetchList s.spriteFetchMsk)[s.spriteFetchIdx]? with
  | none => .error (.assertFail .fetchSpriteIndex)
  | some t => (steal t.num (fetchTupleSprites t s)).map nextTuple

end Sys2Proof.Machine
end

