-- ==== Sys2Proof/Machine/Badline.lean ====
section
/-! DEFINITION. The bad-line evaluator (42_badline.md). -/

namespace Sys2Proof.Machine

/-- `W0`, the first cycle of the fetch window (42_badline.md, opening). -/
def State.window0 (s : State) : Nat := s.cfg.fetchCycle

/-- `C0`, the cycle of character column 0. -/
def State.column0 (s : State) : Nat := s.cfg.fetchCycle + s.cfg.baLead

/-- `W1`, the first cycle after the fetch window. -/
def State.window1 (s : State) : Nat := s.cfg.fetchCycle + s.cfg.baLead + textCols

/-- `BADLINE_AT_FETCH(t)` (42_badline.md R169). -/
def badlineAtFetch (t : Clock) (s : State) : Except Fault State :=
  let s1 := { s with allowBadLines := (s.reg 0x11).getLsbD 4, memCounter := s.memptr }
  if badLineCondition s.cfg.toConfig (s.reg 0x11) (s.rasterY t.toNat) then do
    let s2 ← fetchMatrix 0 textCols { s1 with badLine := true }
    steal (textCols + s.cfg.baLead : Nat)
      { s2 with memCounterInc := BitVec.ofNat 8 textCols, ycounter := 0, idleState := false }
  else .ok { s1 with badLine := false }

/-- What a forced fetch does: first column, columns, 0xff columns, increment (42_badline.md R164). -/
structure ForcedFetch where
  pos : Nat
  num : Nat
  nff : Nat
  inc : Nat
  deriving DecidableEq, Repr

/-- The formulas of 42_badline.md R164 for a line that becomes bad at cycle `c` of the window. -/
def State.forcedFetch (s : State) (c : Nat) : ForcedFetch :=
  if s.column0 ≤ c then
    let xpos := c - s.column0
    if s.idleState then { pos := 0, num := textCols - xpos, nff := s.cfg.baLead, inc := xpos }
    else { pos := min xpos (textCols - 1), num := textCols - xpos, nff := s.cfg.baLead, inc := textCols }
  else { pos := 0, num := textCols, nff := c - s.window0, inc := textCols }

/-- The 0xff pre-fetch of `k` columns from `pos` on, one free colour nibble per column (42_badline.md R164, R165;
log 14). -/
def preFetch (pos k : Nat) (s : State) : State :=
  { s with
    vbuf := Vector.ofFn fun c : Fin 40 => if pos ≤ c.val ∧ c.val < pos + k then 0xFF#8 else s.vbuf[c]
    cbuf := Vector.ofFn fun c : Fin 40 =>
      if pos ≤ c.val ∧ c.val < pos + k then (Config.freeNibble (s.draws + (c.val - pos))).setWidth 8 else s.cbuf[c]
    draws := s.draws + k }

/-- `LINE_BECOMES_BAD(c)` in region (b) (42_badline.md R164, R166). -/
def becomesBadInWindow (c : Nat) (s : State) : Except Fault State := do
  let f := s.forcedFetch c
  let s1 := { s with badLine := true, ycounter := if c ≤ s.window0 + 2 then 0 else s.ycounter }
  let s2 ← steal ((textCols : Int) - ((c : Int) - s.column0)) s1
  let k := min f.num f.nff
  let s3 := preFetch f.pos k { s2 with memCounter := s2.memptr }
  let s4 ← if f.nff < f.num then fetchMatrix ((f.pos + f.nff : Nat) : Int) ((f.num - f.nff : Nat) : Int) s3
    else .ok s3
  .ok { s4 with memCounterInc := BitVec.ofNat 8 f.inc, idleState := false }

/-- `LINE_BECOMES_BAD(c)`, by the region of `c` (42_badline.md R162, R163, R164, R167). -/
def lineBecomesBad (c : Nat) (s : State) : Except Fault State :=
  if c < s.window0 then .ok { s with badLine := true }
  else if c < s.window1 then becomesBadInWindow c s
  else
    .ok { s with
      badLine := true
      memCounterInc := if s.idleState then 0 else s.memCounterInc
      forceDisplayState := true }

/-- `LINE_BECOMES_GOOD(c)` (42_badline.md R168). -/
def lineBecomesGood (c : Nat) (s : State) : State :=
  { s with
    badLine := if c < s.window0 then false else s.badLine
    forceDisplayState := if 0 < c then true else s.forceDisplayState }

/-- `BADLINE_EVAL(old, new, y, c)` (42_badline.md R161). -/
def badlineEval (old new : Byte) (y c : Nat) (s : State) : Except Fault State :=
  let s1 := { s with allowBadLines := new.getLsbD 4 }
  let was := badLineCondition s.cfg.toConfig old y
  let now := badLineCondition s.cfg.toConfig new y
  if was = now then .ok s1
  else if now then lineBecomesBad c s1
  else .ok (lineBecomesGood c s1)

end Sys2Proof.Machine
end

