-- ==== Sys2Proof/Machine/Renderer.lean ====
section
/-! DEFINITION. The pixel renderer, the raster cache and the detection of collisions (44_renderer.md). -/

namespace Sys2Proof.Machine

/-! Graphics (44_renderer.md R205, R209 to R218). -/

/-- `MODE_AT(X)` (44_renderer.md R201). -/
def State.modeAt (s : State) (r : RenderRegs) : VideoMode := if s.idleState then .idle else r.videoMode

/-- The address of the graphics byte in a mode (44_renderer.md R205): character code `c`, matrix position `vc`, row
`y`. `none` in the idle mode, which reads no matrix data. -/
def graphicsAddress (m : VideoMode) (r : RenderRegs) (c : Byte) (vc : BitVec 10) (y : BitVec 3) : Option Addr :=
  match m with
  | .normalText | .multicolorText => some (r.charBase + (c.setWidth 16 <<< 3) + y.setWidth 16)
  | .extendedText | .illegalText => some (r.charBase + ((c &&& 0x3F#8).setWidth 16 <<< 3) + y.setWidth 16)
  | .hiresBitmap | .multicolorBitmap => some (r.bitmapBase + (vc.setWidth 16 <<< 3) + y.setWidth 16)
  | .illegalBitmap1 | .illegalBitmap2 =>
    some (r.bitmapBase + (((vc.setWidth 16 <<< 3) + y.setWidth 16) &&& 0x19FF#16))
  | .idle => none

/-- The inputs of one column: graphics byte, matrix byte, colour nibble, and the mode they were read in. -/
structure ColumnInputs where
  g : Byte
  c : Byte
  k : Colour
  mode : VideoMode
  deriving DecidableEq, Repr

/-- The inputs of column `col`, with the registers at the column's first X (44_renderer.md R205). -/
def State.columnInputs (s : State) (col : Nat) : ColumnInputs :=
  let r := s.renderAt (s.cfg.displayX0 + 8 * col)
  let c := s.vbuf.getD col 0
  match graphicsAddress (s.modeAt r) r c (s.memCounter + BitVec.ofNat 10 col) s.ycounter with
  | some a => { g := s.phi1Read a, c := c, k := (s.cbuf.getD col 0).extractLsb' 0 4, mode := s.modeAt r }
  | none => { g := s.idleData, c := 0, k := 0, mode := .idle }

/-- `bit = g[7 - b]` (44_renderer.md R218). -/
def cellBit (g : Byte) (b : Nat) : Bool := g.getLsbD (7 - b)

/-- `pair = g[7 - 2*(b div 2) : 6 - 2*(b div 2)]` (44_renderer.md R218). -/
def cellPair (g : Byte) (b : Nat) : BitVec 2 := g.extractLsb' (6 - 2 * (b / 2)) 2

/-- `MulticolorText` (44_renderer.md R210). -/
def multicolorTextPixel (g : Byte) (k : Colour) (b : Nat) (r : RenderRegs) : Colour × Bool :=
  let low := k &&& 0x7#4
  if k.getLsbD 3 then
    match (cellPair g b).toNat with
    | 0 => (r.background[0], false)
    | 1 => (r.background[1], false)
    | 2 => (r.background[2], true)
    | _ => (low, true)
  else if cellBit g b then (low, true) else (r.background[0], false)

/-- `MulticolorBitmap` (44_renderer.md R212). -/
def multicolorBitmapPixel (g c : Byte) (k : Colour) (b : Nat) (r : RenderRegs) : Colour × Bool :=
  match (cellPair g b).toNat with
  | 0 => (r.background[0], false)
  | 1 => (c.extractLsb' 4 4, false)
  | 2 => (c.extractLsb' 0 4, true)
  | _ => (k, true)

/-- Background colour register `n` (0..3) at X, `B(n)`. -/
def RenderRegs.backgroundAt (r : RenderRegs) (n : BitVec 2) : Colour := r.background[n.toFin]

/-- `MODE_PIXEL`: colour and foreground bit of pixel `b` of a cell (44_renderer.md R209 to R217). -/
def modePixel (m : VideoMode) (g c : Byte) (k : Colour) (b : Nat) (r : RenderRegs) : Colour × Bool :=
  match m with
  | .normalText => if cellBit g b then (k, true) else (r.background[0], false)
  | .multicolorText => multicolorTextPixel g k b r
  | .hiresBitmap => if cellBit g b then (c.extractLsb' 4 4, true) else (c.extractLsb' 0 4, false)
  | .multicolorBitmap => multicolorBitmapPixel g c k b r
  | .extendedText => if cellBit g b then (k, true) else (r.backgroundAt (c.extractLsb' 6 2), false)
  | .illegalText => (0, (multicolorTextPixel g k b r).2)
  | .illegalBitmap1 => (0, cellBit g b)
  | .illegalBitmap2 => (0, (cellPair g b).getLsbD 1)
  | .idle => if cellBit g b then (0, true) else (r.background[0], false)

/-- `GAP_COLOR(X)` (44_renderer.md R213). -/
def State.gapColour (s : State) (r : RenderRegs) : Colour :=
  match s.modeAt r with
  | .extendedText => r.backgroundAt (s.backgroundColorSource.extractLsb' 6 2)
  | .hiresBitmap => s.backgroundColorSource.extractLsb' 0 4
  | _ => r.background[0]

/-- `GFX_PIXEL(X)`: graphics colour and foreground bit, before sprites and border (44_renderer.md R218). -/
def State.gfxPixel (s : State) (x : Nat) : Colour × Bool :=
  let r := s.renderAt x
  if s.blank = true ∨ s.verticalBorder = true ∨ x < s.cfg.displayX0 ∨ s.cfg.displayX0 + 320 ≤ x then
    (r.background[0], false)
  else if x < s.cfg.displayX0 + r.xsmooth.toNat then (s.gapColour r, false)
  else
    let gx := x - s.cfg.displayX0 - r.xsmooth.toNat
    let i := s.columnInputs (gx / 8)
    modePixel (s.modeAt r) i.g i.c i.k (gx % 8) r

/-! Border (44_renderer.md R206). -/

/-- `UPDATE_VERTICAL_BORDER(L)` for the current line. -/
def updateVerticalBorder (s : State) : State :=
  { s with
    verticalBorder :=
      if s.currentLine = s.borderTop ∧ s.blank = false then false
      else if s.currentLine = s.borderBottom + 1 then true
      else s.verticalBorder }

/-- `LEFT` and `RIGHT` of a column mode as raster X (44_renderer.md R206; log 30). -/
def columnWindow (c : Config) (csel : Bool) : Int × Int :=
  if csel then (c.displayX0 + c.left40, c.displayX0 + c.right40) else (c.displayX0 + c.left38, c.displayX0 + c.right38)

/-- Pixel `x` is a border pixel (44_renderer.md R206). -/
def State.borderPixel (s : State) (x : Nat) : Bool :=
  let w := columnWindow s.cfg.toConfig (s.renderAt x).columnMode
  s.blank || s.verticalBorder || decide ((x : Int) < w.1) || decide (w.2 ≤ (x : Int))

/-! Sprites (44_renderer.md R221 to R225). -/

/-- The data bit index `j` of a sprite at raster X, where the sprite covers X (44_renderer.md R222). -/
def State.spriteIndexAt (s : State) (i : SpriteNo) (x : Nat) : Option Nat :=
  let n : Int := x - (s.cfg.displayX0 + (s.spriteX i).toNat - 24)
  if s.spriteXExpanded i then (if 0 ≤ n ∧ n < 48 then some (n.toNat / 2) else none)
  else if 0 ≤ n ∧ n < 24 then some n.toNat else none

/-- The colour of a hires sprite at data bit index `j`, where it is opaque (44_renderer.md R223). -/
def hiresSpritePixel (d : BitVec 24) (j : Nat) (own : Colour) : Option Colour :=
  if d.getLsbD (23 - j) then some own else none

/-- The colour of a multicolour sprite at data bit index `j`, where it is opaque (44_renderer.md R223). -/
def multicolorSpritePixel (d : BitVec 24) (j : Nat) (own mc0 mc1 : Colour) : Option Colour :=
  match (d.extractLsb' (22 - 2 * (j / 2)) 2).toNat with
  | 0 => none
  | 1 => some mc0
  | 2 => some own
  | _ => some mc1

/-- The colour of sprite `i` at raster X, if it is displayed, covers X and is opaque there: `SPRITE_OPAQUE(i, X)`
(44_renderer.md R221 to R223). -/
def State.spritePixel (s : State) (r : RenderRegs) (i : SpriteNo) (x : Nat) : Option Colour :=
  if spriteBit s.spriteDmaMask i then
    (s.spriteIndexAt i x).bind fun j =>
      if s.spriteMulticolor i then
        multicolorSpritePixel s.sprites[i].data j r.spriteColor[i] r.spriteMc[0] r.spriteMc[1]
      else hiresSpritePixel s.sprites[i].data j r.spriteColor[i]
  else none

/-- The opaque sprites at raster X with their colours, lowest number first (44_renderer.md R200, R224). -/
def State.opaqueSprites (s : State) (x : Nat) : List (SpriteNo × Colour) :=
  let r := s.renderAt x
  spriteNumbers.filterMap fun i => (s.spritePixel r i x).map fun c => (i, c)

/-- `MASK(O)` (44_renderer.md R200). -/
def spriteSetMask (o : List (SpriteNo × Colour)) : Byte :=
  o.foldl (fun m p => m ||| (1#8 <<< p.1.val)) 0#8

/-- `COMPOSE(X, gcol, fg, O)` (44_renderer.md R224 to R226). -/
def State.compose (s : State) (x : Nat) (g : Colour × Bool) (o : List (SpriteNo × Colour)) : Colour :=
  if s.borderPixel x then (s.renderAt x).borderColor
  else
    match o with
    | [] => g.1
    | (f, c) :: _ => if s.spritePriority f && g.2 then g.1 else c

/-- One pixel: its colour and the collision bits found at it (44_renderer.md R200, R227, R228). -/
structure PixelResult where
  out : Colour
  ss : Byte
  sb : Byte
  deriving DecidableEq, Repr

/-- The pixel at raster X (44_renderer.md R200). -/
def State.pixelAt (s : State) (x : Nat) : PixelResult :=
  let g := s.gfxPixel x
  let o := s.opaqueSprites x
  { out := s.compose x g o
    ss := if 2 ≤ o.length then spriteSetMask o else 0
    sb := if 1 ≤ o.length ∧ g.2 = true then spriteSetMask o else 0 }

/-- The pixels of the line, left to right (44_renderer.md R200, R202). -/
def State.linePixels (s : State) : List PixelResult := (List.range (8 * s.cfg.cpl)).map s.pixelAt

/-! The raster cache (44_renderer.md R207). -/

/-- The background colour index of a cell's first pixel: what its clear bit or `00` pair shows (log 23). -/
def cellBackground (i : ColumnInputs) (r : RenderRegs) : Colour :=
  match i.mode with
  | .normalText | .multicolorText | .multicolorBitmap | .idle => r.background[0]
  | .hiresBitmap => i.c.extractLsb' 0 4
  | .extendedText => r.backgroundAt (i.c.extractLsb' 6 2)
  | .illegalText | .illegalBitmap1 | .illegalBitmap2 => 0

/-- `FGMASK(col)`, the foreground bits of the cell, leftmost in bit 7 (44_renderer.md R207). The cell is the column's X range
at xsmooth 0, `DISPLAY_X0 + 8 * col` to `+ 7`, whatever the X scroll: DESIGN CHOICE, log 29. -/
def State.foregroundMask (s : State) (col : Nat) : Byte :=
  spriteNumbers.foldl
    (fun m b => if (s.gfxPixel (s.cfg.displayX0 + 8 * col + b.val)).2 then m ||| (0x80#8 >>> b.val) else m) 0#8

/-- The entry of a column as this line drew it (44_renderer.md R207); the pixels of its cell, and the first pixel `bg` is for,
are those of the column's X range at xsmooth 0: DESIGN CHOICE, log 29. -/
def State.cacheEntry (s : State) (out : List Colour) (col : Nat) : CacheEntry :=
  let i := s.columnInputs col
  { valid := true
    mode := i.mode
    fg := i.g
    bg := cellBackground i (s.renderAt (s.cfg.displayX0 + 8 * col))
    color := s.vbuf.getD col 0 ++ s.cbuf.getD col 0
    mask := s.foregroundMask col
    pixels := (out.drop (s.cfg.displayX0 + 8 * col)).take 8 }

/-- The row of the cache for a line, if it holds valid entries. -/
def cacheRow : List (Nat × List CacheEntry) → Nat → Option (List CacheEntry)
  | [], _ => none
  | (k, row) :: rest, l => if k = l then some row else cacheRow rest l

/-- Replace the row of a line, lines rising. -/
def storeRow : List (Nat × List CacheEntry) → Nat → List CacheEntry → List (Nat × List CacheEntry)
  | [], l, row => [(l, row)]
  | (k, old) :: rest, l, row =>
    if l < k then (l, row) :: (k, old) :: rest
    else if l = k then (l, row) :: rest
    else (k, old) :: storeRow rest l row

/-- The cached inputs differ, so the column is dirty (44_renderer.md R207). -/
def CacheEntry.differs (old new : CacheEntry) : Bool :=
  !old.valid || old.mode != new.mode || old.fg != new.fg || old.bg != new.bg || old.color != new.color

/-- The columns of a new row whose cached inputs differ. -/
def dirtyColumns (old : Option (List CacheEntry)) (new : List CacheEntry) : List Nat :=
  (List.range textCols).filter fun col =>
    match new[col]? with
    | none => false
    | some e =>
      match (old.getD [])[col]? with
      | none => true
      | some o => o.differs e

/-- `UPDATE_CACHE(L)` and the dirty range of the line (44_renderer.md R207). -/
def updateCache (out : List Colour) (s : State) : State :=
  let row := (List.range textCols).map (s.cacheEntry out)
  let dirty := dirtyColumns (cacheRow s.cache s.currentLine.toNat) row
  { s with
    cache := storeRow s.cache s.currentLine.toNat row
    dirtyRange := dirty.head?.bind fun a => dirty.getLast?.map fun b => (a, b) }

/-! The operation (44_renderer.md R200, R204, R219, R230). -/

/-- `IDLE_ADDR()` (44_renderer.md R219). -/
def State.idleAddr (s : State) : Addr :=
  s.vbankPhi1 ||| (if (s.reg 0x11).getLsbD 6 then 0x39FF#16 else 0x3FFF#16)

/-- The idle byte is latched once per idle line (44_renderer.md R219). -/
def latchIdle (s : State) : State :=
  { s with idleData := if s.idleState then s.phi1Read s.idleAddr else s.idleData }

/-- Deliver the line, drain the queue into the line-start values (44_renderer.md R204, R230). -/
def finishLine (px : List PixelResult) (s : State) : State :=
  { s with
    lines := s.lines ++ [{ line := s.currentLine, pixels := px.map fun p => p.out }]
    lineStart := s.renderEnd
    changes := []
    lineCollisions := (px.foldl (fun m p => m ||| p.ss) 0#8, px.foldl (fun m p => m ||| p.sb) 0#8) }

/-- `DRAW_LINE()` (44_renderer.md R200); its result `(line_ss, line_sb)` is left in `lineCollisions`. -/
def drawLine (s : State) : State :=
  let s1 := latchIdle (updateVerticalBorder s)
  finishLine s1.linePixels (updateCache (s1.linePixels.map fun p => p.out) s1)

end Sys2Proof.Machine
end

