-- ==== Sys2Proof/Machine/Scheduler.lean ====
section
/-! DEFINITION. The cycle/raster scheduler: the three alarms, ADVANCE and the flush (41_scheduler.md), with the
collision interrupts of 60_exceptions.md R260, R261. -/

namespace Sys2Proof.Machine

/-! The fetch alarm (41_scheduler.md R146). -/

/-- The fetch alarm in state FETCH_MATRIX. -/
def fetchAlarmMatrix (s : State) : Except Fault State :=
  (badlineAtFetch s.fetchClk s).map fun s1 =>
    { s1 with
      fetchIdx := .checkSpriteDma
      fetchClk := later (s.lineStartOf s.fetchClk) s.cfg.checkSpriteDmaCycle }

/-- The offset of the first tuple of a mask's list (41_scheduler.md R146). -/
def firstTupleCycle (c : Config) (m : Byte) : Int :=
  match c.fetchList m with
  | t :: _ => t.cycle
  | [] => 0

/-- The fetch alarm in state CHECK_SPRITE_DMA. -/
def fetchAlarmCheck (s : State) : State :=
  let l := s.lineStartOf s.fetchClk
  let s1 := checkSpriteDma s
  if s1.newSpriteDmaMask ≠ 0#8 then
    { s1 with
      spriteFetchMsk := s1.newSpriteDmaMask
      spriteFetchIdx := 0
      spriteFetchBase := later l s.cfg.spriteFetchCycle
      fetchIdx := .fetchSprite
      fetchClk := offsetBy (later l s.cfg.spriteFetchCycle) (firstTupleCycle s.cfg.toConfig s1.newSpriteDmaMask) }
  else { s1 with fetchIdx := .fetchMatrix, fetchClk := later l (s.cfg.cpl + s.cfg.fetchCycle) }

/-- `FETCH_ALARM()` (41_scheduler.md R146). -/
def fetchAlarm (s : State) : Except Fault State :=
  match s.fetchIdx with
  | .fetchMatrix => fetchAlarmMatrix s
  | .checkSpriteDma => .ok (fetchAlarmCheck s)
  | .fetchSprite => fetchSprite s

/-! The draw alarm (41_scheduler.md R147 to R150). -/

/-- The sprite-sprite part of `COLLISION_IRQS` (60_exceptions.md R260). -/
def spriteSpriteIrq (lineSs : Byte) (s : State) : State :=
  if lineSs = 0#8 then s
  else
    let s1 := if s.spriteSpriteCollisions = 0#8 then raiseIrq .immc s else s
    { s1 with spriteSpriteCollisions := s1.spriteSpriteCollisions ||| lineSs }

/-- The sprite-background part of `COLLISION_IRQS` (60_exceptions.md R261). -/
def spriteBackgroundIrq (lineSb : Byte) (s : State) : State :=
  if lineSb = 0#8 then s
  else
    let s1 := if s.spriteBackgroundCollisions = 0#8 then raiseIrq .imbc s else s
    { s1 with spriteBackgroundCollisions := s1.spriteBackgroundCollisions ||| lineSb }

/-- `COLLISION_IRQS(line_ss, line_sb)` (60_exceptions.md R260, R261, R267). -/
def collisionIrqs (s : State) : State := spriteBackgroundIrq s.lineCollisions.2 (spriteSpriteIrq s.lineCollisions.1 s)

/-- The fetched sprite bytes become the bytes shown on the line now begun (41_scheduler.md R147). -/
def shiftSprites (s : State) : State :=
  { s with
    spriteDmaMask := s.newSpriteDmaMask
    sprites := Vector.ofFn fun i : SpriteNo => { s.sprites[i] with data := s.sprites[i].dataNext } }

/-- The line after the current one (41_scheduler.md R147). -/
def State.nextLine (s : State) : BitVec 16 := BitVec.ofNat 16 ((s.currentLine.toNat + 1) % s.cfg.screenHeight)

/-- `VSYNC()` (41_scheduler.md R150). -/
def vsync (s : State) : State :=
  { s with
    clkOrigin := later s.clkOrigin s.cfg.frame
    memptr := 0
    memCounter := 0
    lightPen := { s.lightPen with triggered := false } }

/-- `LINE_COUNTERS()`, first half: the video-matrix counter (41_scheduler.md R148). -/
def advanceMatrixCounter (s : State) : State :=
  { s with
    memCounter := if s.idleState then s.memCounter else s.memCounter + s.memCounterInc.setWidth 10
    memCounterInc := BitVec.ofNat 8 textCols }

/-- The row counter at 7 ends the character row (41_scheduler.md R149, first test). -/
def endCharacterRow (s : State) : State :=
  if s.ycounter = 7#3 then { s with idleState := true, memptr := s.memCounter } else s

/-- The row counter advances in display state or after a bad line (41_scheduler.md R149, second test). -/
def advanceRow (s : State) : State :=
  if s.idleState = false ∨ s.badLine = true then { s with ycounter := s.ycounter + 1, idleState := false } else s

/-- The forced exit from idle state (41_scheduler.md R149, 42_badline.md R170). -/
def applyForcedDisplay (s : State) : State :=
  if s.forceDisplayState then { s with idleState := false, forceDisplayState := false } else s

/-- `LINE_COUNTERS()` (41_scheduler.md R148, R149). -/
def lineCounters (s : State) : State := applyForcedDisplay (advanceRow (endCharacterRow (advanceMatrixCounter s)))

/-- The end of a line after it has been drawn (41_scheduler.md R147). -/
def beginNextLine (s : State) : State :=
  let s1 := { shiftSprites s with currentLine := s.nextLine }
  let s2 := if s.nextLine = 0#16 then vsync s1 else s1
  { lineCounters s2 with badLine := false, drawClk := later s.drawClk s.cfg.cpl }

/-- `DRAW_ALARM()` (41_scheduler.md R147). -/
def drawAlarm (s : State) : State := beginNextLine (collisionIrqs (drawLine s))

/-! The raster-IRQ alarm (41_scheduler.md R151). -/

/-- `RASTER_IRQ_ALARM()` (41_scheduler.md R151); "a disarmed alarm (`CLOCK_MAX`) never fires and is not
rescheduled" (log 16). -/
def rasterIrqAlarm (s : State) : State :=
  if s.rasterIrqClk = s.cfg.clockMax then s
  else { raiseIrq .irst s with rasterIrqClk := later s.rasterIrqClk s.cfg.frame }

/-! ADVANCE and the flush (41_scheduler.md R142 to R145). -/

/-- More services than the three alarm clocks have values: a loop that runs longer has wrapped a clock (log 5). -/
def serviceFuel : Nat := 3 * 2 ^ 32

/-- The loop of `ADVANCE` (41_scheduler.md R142, R143). -/
def advanceLoop : Nat → State → Except Fault State
  | 0, _ => .error .clockOverrun
  | n + 1, s =>
    let f := min s.fetchClk.toNat (min s.drawClk.toNat s.rasterIrqClk.toNat)
    if f = s.cfg.clockMax.toNat ∨ s.clk.toNat < f then .ok s
    else if s.fetchClk.toNat = f then
      match fetchAlarm s with
      | .ok s1 => advanceLoop n s1
      | .error e => .error e
    else if s.drawClk.toNat = f then advanceLoop n (drawAlarm s)
    else advanceLoop n (rasterIrqAlarm s)

/-- `ADVANCE` (41_scheduler.md R142). -/
def advance (s : State) : Except Fault State := advanceLoop serviceFuel s

/-- An alarm with time `f` is due at the rolled-back time `clk - write_cycles`, an integer (41_scheduler.md R144;
log 4). -/
def State.dueAt (s : State) (wc : Nat) (f : Clock) : Bool := f.toNat + wc ≤ s.clk.toNat

/-- The loop of `HANDLE_PENDING_ALARMS` (41_scheduler.md R144). -/
def flushLoop : Nat → Nat → State → Except Fault State
  | 0, _, _ => .error .clockOverrun
  | n + 1, wc, s =>
    if s.dueAt wc s.fetchClk = true ∧ s.fetchClk ≤ s.drawClk then
      match fetchAlarm s with
      | .ok s1 => flushLoop n wc s1
      | .error e => .error e
    else if s.dueAt wc s.drawClk then flushLoop n wc (drawAlarm s)
    else .ok s

/-- `HANDLE_PENDING_ALARMS(write_cycles)`, the flush (41_scheduler.md R144, 20_memory.md R55). -/
def flush (wc : Nat) (s : State) : Except Fault State := flushLoop serviceFuel wc s

/-- No fetch or draw alarm is due at the rolled-back time: the condition of 41_scheduler.md R145. -/
def State.quiet (s : State) (wc : Nat) : Bool := !s.dueAt wc s.fetchClk && !s.dueAt wc s.drawClk

end Sys2Proof.Machine
end

