-- ==== Sys2Proof/Machine/Snapshot.lean ====
section
/-! DEFINITION. The snapshot: body layout, write and load (45_snapshot.md). -/

namespace Sys2Proof.Machine

/-- The length of a body (45_snapshot.md R240). -/
def bodyLength : Nat := 1223

/-- A `u16` field, least significant byte first (45_snapshot.md R243). -/
def bytesOf16 (v : BitVec 16) : List Byte := [v.extractLsb' 0 8, v.extractLsb' 8 8]

/-- A `u32` field, least significant byte first (45_snapshot.md R243). -/
def bytesOf32 (v : BitVec 32) : List Byte :=
  [v.extractLsb' 0 8, v.extractLsb' 8 8, v.extractLsb' 16 8, v.extractLsb' 24 8]

/-- A flag as a byte. -/
def byteOfBool (b : Bool) : Byte := if b then 1#8 else 0#8

/-- FetchEventType (10_state.md R15). -/
def FetchState.code : FetchState → Byte
  | .fetchMatrix => 0
  | .checkSpriteDma => 1
  | .fetchSprite => 2

/-- The three bytes of a sprite (45_snapshot.md R242). -/
def spriteBytes (sp : Sprite) : List Byte :=
  [sp.memptr.setWidth 8, sp.memptrInc.setWidth 8, byteOfBool sp.expFlag]

/-- The fields of the body at offsets 0 to 1116 (45_snapshot.md R242). -/
def State.bodyHead (s : State) : List Byte :=
  [byteOfBool s.allowBadLines, byteOfBool s.badLine, byteOfBool s.blank] ++ s.cbuf.toList ++
    (List.range 1024).map (fun k => s.colorByte (BitVec.ofNat 10 k)) ++
    [byteOfBool s.idleState, byteOfBool s.lightPen.triggered, s.lightPen.x, s.lightPen.y] ++ s.vbuf.toList ++
    [s.newSpriteDmaMask] ++ bytesOf32 s.ramBaseOffset ++ [BitVec.ofNat 8 s.cycleNow]

/-- The stored byte at an address, with its bits at their places (30_encoding.md R64, R65; log 7). -/
def State.storedAt (s : State) (a : RegAddr) : Byte :=
  s.cfg.busByte (s.cfg.registerAt a) (s.reg (s.cfg.registerAt a))

/-- Registers, the stored bytes in the order of their addresses (45_snapshot.md R242). -/
def State.regBytes (s : State) : List Byte := (List.range 64).map fun a => s.storedAt (BitVec.ofNat 6 a)

/-- The fields of the body at offsets 1117 to 1222 (45_snapshot.md R242, R245). -/
def State.bodyTail (s : State) : List Byte :=
  bytesOf16 (BitVec.ofNat 16 s.lineNow) ++ s.regBytes ++
    [s.spriteBackgroundCollisions, s.spriteDmaMask, s.spriteSpriteCollisions] ++ bytesOf16 s.vbankPhi1 ++
    bytesOf16 (s.memCounter.setWidth 16) ++ [s.memCounterInc] ++ bytesOf16 (s.memptr.setWidth 16) ++ [s.irqStatus] ++
    (s.sprites.toList.map spriteBytes).flatten ++ bytesOf32 (s.fetchClk - s.clk) ++ [s.fetchIdx.code]

/-- The body of the block's snapshot (45_snapshot.md R242). -/
def State.body (s : State) : List Byte := s.bodyHead ++ s.bodyTail

/-- `SNAPSHOT_WRITE()` (45_snapshot.md R244). -/
def snapshotWrite (s : State) : Except Fault State :=
  (advance s).map fun s1 => { s1 with snapshotOut := some { version := s1.cfg.snapshotVersion, body := s1.body } }

/-! Reading a body (45_snapshot.md R242, R243). -/

/-- The byte at an offset. -/
def byteAt (b : List Byte) (off : Nat) : Byte := b.getD off 0

/-- The flag at an offset. -/
def boolAt (b : List Byte) (off : Nat) : Bool := byteAt b off == 1#8

/-- The `u16` at an offset. -/
def word16At (b : List Byte) (off : Nat) : BitVec 16 := byteAt b (off + 1) ++ byteAt b off

/-- The `u32` at an offset. -/
def word32At (b : List Byte) (off : Nat) : BitVec 32 :=
  byteAt b (off + 3) ++ byteAt b (off + 2) ++ byteAt b (off + 1) ++ byteAt b off

/-- The fetch state of a FetchEventType that is at most 2. -/
def fetchStateOf (code : Byte) : FetchState :=
  if code = 0#8 then .fetchMatrix else if code = 1#8 then .checkSpriteDma else .fetchSprite

/-- The sprite of a body: `data`, `data_next` and `pointer` are not in it (45_snapshot.md R249, R251). -/
def spriteOfBody (b : List Byte) (i : SpriteNo) : Sprite where
  memptr := (byteAt b (1194 + 3 * i.val)).setWidth 6
  memptrInc := (byteAt b (1195 + 3 * i.val)).setWidth 6
  expFlag := boolAt b (1196 + 3 * i.val)
  data := 0
  dataNext := 0
  pointer := 0

/-- The value of a register in a body: the byte at its address, its bits from their places (45_snapshot.md R242). -/
def registerOfBody (c : Config) (b : List Byte) (r : RegAddr) : Byte :=
  c.registerByte r (byteAt b (1119 + (c.addressOf r).toNat))

/-- The offsets of the fields that must be 0 or 1 (45_snapshot.md R248). -/
def flagOffsets : List Nat := [0, 1, 2, 1067, 1068] ++ (List.range 8).map fun i => 1196 + 3 * i

/-- The start of the latest line whose cycle `SPRITE_FETCH_CYCLE` is not after a clock value, and that cycle's clock
(45_snapshot.md R249). -/
def State.fetchBaseOf (s : State) (fetchClk : Clock) : Clock :=
  let p : Int := (fetchClk.toNat : Int) - s.clkOrigin.toNat - s.cfg.spriteFetchCycle
  s.clkOrigin + BitVec.ofInt 32 (p / s.cfg.cpl * s.cfg.cpl + s.cfg.spriteFetchCycle)

/-- The index of the tuple that is served at a clock value (45_snapshot.md R249). -/
def State.tupleIndexAt (s : State) (mask : Byte) (fetchClk : Clock) : Option Nat :=
  (s.cfg.fetchList mask).findIdx? fun t => offsetBy (s.fetchBaseOf fetchClk) t.cycle == fetchClk

/-- The range checks (45_snapshot.md R248). -/
def State.bodyInRange (s : State) (b : List Byte) : Bool :=
  (flagOffsets.all fun off => byteAt b off ≤ 1#8) &&
  ((List.range 8).all fun i => byteAt b (1194 + 3 * i) ≤ 63#8 && byteAt b (1195 + 3 * i) ≤ 63#8) &&
  word16At b 1188 ≤ 1023#16 && word16At b 1191 ≤ 1023#16 && byteAt b 1190 ≤ 40#8 &&
  bankWellFormed (word16At b 1186) &&
  (byteAt b 1222 != 2#8 || (s.tupleIndexAt (byteAt b 1111) (s.clk + word32At b 1218)).isSome)

/-- What stops a load: the first failure in the order of 60_exceptions.md R271, as its log message. -/
def State.loadProblem (s : State) (v : Version) (b : List Byte) : Option LogMessage :=
  if v.newerThan s.cfg.snapshotVersion then some (.snapshotVersionError v)
  else if b.length ≠ bodyLength then some (.snapshotLoadError .size)
  else if (byteAt b 1116).toNat ≠ s.cycleNow ∨ (word16At b 1117).toNat ≠ s.lineNow then
    some (.snapshotLoadError .rasterPositionMismatch)
  else if 2#8 < byteAt b 1222 then some (.snapshotLoadError .fetchEventType)
  else if s.bodyInRange b then none
  else some (.snapshotLoadError .range)

/-- Every field of the body into its state field (45_snapshot.md R242, R246); bits 7:4 of `irq_status` are always 0
(60_exceptions.md R256; log 22). -/
def storeBody (b : List Byte) (s : State) : State :=
  { s with
    allowBadLines := boolAt b 0
    badLine := boolAt b 1
    blank := boolAt b 2
    cbuf := Vector.ofFn fun c : Fin 40 => byteAt b (3 + c.val)
    colorRam := (List.range 1024).map fun k => (k, byteAt b (43 + k))
    idleState := boolAt b 1067
    lightPen := { triggered := boolAt b 1068, x := byteAt b 1069, y := byteAt b 1070 }
    vbuf := Vector.ofFn fun c : Fin 40 => byteAt b (1071 + c.val)
    newSpriteDmaMask := byteAt b 1111
    ramBaseOffset := word32At b 1112
    regs := Vector.ofFn fun r : Fin 64 => registerOfBody s.cfg.toConfig b (BitVec.ofNat 6 r.val)
    spriteBackgroundCollisions := byteAt b 1183
    spriteDmaMask := byteAt b 1184
    spriteSpriteCollisions := byteAt b 1185
    vbankPhi1 := word16At b 1186
    vbankPhi2 := word16At b 1186
    memCounter := (word16At b 1188).setWidth 10
    memCounterInc := byteAt b 1190
    memptr := (word16At b 1191).setWidth 10
    irqStatus := byteAt b 1193 &&& 0x0F#8
    sprites := Vector.ofFn fun i : SpriteNo => spriteOfBody b i
    fetchClk := s.clk + word32At b 1218
    fetchIdx := fetchStateOf (byteAt b 1222) }

/-- The smallest clock after `clk` at cycle `DRAW_CYCLE` of a line (45_snapshot.md R249). -/
def State.nextDrawClk (s : State) : Clock :=
  let d := (s.cfg.drawCycle + s.cfg.cpl - s.cycleNow) % s.cfg.cpl
  later s.clk (if d = 0 then s.cfg.cpl else d)

/-- The display state of `RECOMPUTE_DERIVED()` (45_snapshot.md R249, R250). -/
def recomputeDisplay (s : State) : State :=
  let line := s.rasterY ((s.clk.toNat : Int) - s.cfg.drawCycle)
  let rows := s.cfg.rows ((s.reg 0x11).getLsbD 3)
  { s with
    currentLine := BitVec.ofNat 16 line
    drawClk := s.nextDrawClk
    videoMode := modeOfRegs (s.reg 0x11) (s.reg 0x16)
    borderTop := rows.1
    borderBottom := rows.2
    verticalBorder := if rows.1.toNat ≤ line ∧ line ≤ rows.2.toNat then s.blank else true
    changes := []
    lineStart := s.renderFromRegs
    backgroundColorSource := s.vbuf[39]
    ycounter := BitVec.ofNat 3 line - (s.reg 0x11).extractLsb' 0 3
    forceDisplayState := false
    lastRead := 0
    stolenCycles := 0
    cache := [] }

/-- The sprite fetch state of `RECOMPUTE_DERIVED()` (45_snapshot.md R249). -/
def recomputeSpriteFetch (s : State) : State :=
  if s.fetchIdx = .fetchSprite then
    { s with
      spriteFetchMsk := s.newSpriteDmaMask
      spriteFetchBase := s.fetchBaseOf s.fetchClk
      spriteFetchIdx := (s.tupleIndexAt s.newSpriteDmaMask s.fetchClk).getD 0 }
  else { s with spriteFetchMsk := 0, spriteFetchIdx := 0, spriteFetchBase := s.clkOrigin }

/-- `RECOMPUTE_DERIVED()` (45_snapshot.md R249). -/
def recomputeDerived (s : State) : State :=
  recomputeSpriteFetch (updateIrqLine (recomputeDisplay (armRasterCompare s)))

/-- `SNAPSHOT_LOAD(version, body)` (45_snapshot.md R246): all or nothing, a failure only leaves its message in the
log (60_exceptions.md R273, R274). -/
def snapshotLoad (v : Version) (b : List Byte) (s : State) : State :=
  match s.loadProblem v b with
  | some m => s.logMessage m
  | none => recomputeDerived (storeBody b s)

end Sys2Proof.Machine
end

