-- ==== Sys2Proof/Machine/HostOps.lean ====
section
/-! DEFINITION. The operations the host issues, after their flush: RESET (70_reset_and_hazards.md R286),
CLOCK_OVERFLOW (41_scheduler.md R153), the banking (20_memory.md R47, R48), the store to fetched memory (R52) and the
light pen (60_exceptions.md R264). -/

namespace Sys2Proof.Machine

/-! RESET. -/

/-- Registers, flags, counters, buffers and interrupt state at the values of 10_state.md R36. -/
def resetFields (s : State) : State :=
  { s with
    regs := Vector.replicate 64 0
    videoMode := .normalText
    idleState := true
    badLine := false
    allowBadLines := false
    blank := true
    forceDisplayState := false
    ycounter := 0
    memCounter := 0
    memptr := 0
    memCounterInc := 0
    vbuf := Vector.replicate 40 0
    cbuf := Vector.replicate 40 0
    backgroundColorSource := 0
    idleData := 0
    irqStatus := 0
    spriteSpriteCollisions := 0
    spriteBackgroundCollisions := 0
    lastRead := 0
    lightPen := { triggered := false, x := 0, y := 0 }
    sprites := Vector.replicate 8 Sprite.reset
    newSpriteDmaMask := 0
    spriteDmaMask := 0
    changes := []
    cache := []
    verticalBorder := true
    stolenCycles := 0 }

/-- The raster position and the three alarms, the reset instant being cycle 0 of line 0 (70_reset_and_hazards.md
R286). -/
def resetClocks (s : State) : State :=
  { s with
    clkOrigin := s.clk
    currentLine := 0
    fetchIdx := .fetchMatrix
    spriteFetchMsk := 0
    spriteFetchIdx := 0
    spriteFetchBase := s.clk
    fetchClk := later s.clk s.cfg.fetchCycle
    drawClk := later s.clk (if 0 < s.cfg.drawCycle then s.cfg.drawCycle else s.cfg.cpl)
    rasterIrqLine := 0
    rasterIrqClk := later s.clk s.cfg.frame }

/-- What is derived from the zeroed registers and the bank selectors (70_reset_and_hazards.md R286). -/
def resetDerived (s : State) : State :=
  { s with
    borderTop := (s.cfg.rows false).1
    borderBottom := (s.cfg.rows false).2
    lineStart := s.renderFromRegs }

/-- `RESET()` (70_reset_and_hazards.md R286); the outputs and the inbox are kept (log 20). -/
def resetBlock (s : State) : State := updateIrqLine (resetDerived (resetClocks (resetFields s)))

/-! CLOCK_OVERFLOW. -/

/-- An armed alarm clock lies before `sub`; `disarmed` is CLOCK_MAX. -/
def alarmBelow (disarmed sub t : Clock) : Bool := t != disarmed && t.ult sub

/-- Some adjusted field would be negative (41_scheduler.md R153); `sprite_fetch_base` counts only while a list is in
progress (log 21). -/
def State.overflowBelowZero (s : State) (sub : Clock) : Bool :=
  s.clkOrigin.ult sub || alarmBelow s.cfg.clockMax sub s.fetchClk || alarmBelow s.cfg.clockMax sub s.drawClk ||
    alarmBelow s.cfg.clockMax sub s.rasterIrqClk || (s.fetchIdx == .fetchSprite && s.spriteFetchBase.ult sub)

/-- An armed alarm clock is moved back, a disarmed one stays (41_scheduler.md R153); `disarmed` is
CLOCK_MAX. -/
def moveBack (disarmed sub t : Clock) : Clock := if t = disarmed then t else t - sub

/-- `CLOCK_OVERFLOW(sub)` after its flush (41_scheduler.md R153), with the host's own subtraction from `clk`, "in the
same step". -/
def clockOverflow (sub : Clock) (s : State) : Except Fault State :=
  if s.overflowBelowZero sub then .error (.assertFail .clockOverflowBelowZero)
  else
    .ok { s with
      clk := s.clk - sub
      clkOrigin := s.clkOrigin - sub
      fetchClk := moveBack s.cfg.clockMax sub s.fetchClk
      drawClk := moveBack s.cfg.clockMax sub s.drawClk
      rasterIrqClk := moveBack s.cfg.clockMax sub s.rasterIrqClk
      spriteFetchBase := s.spriteFetchBase - sub }

/-! Banking and stores. -/

/-- SET_VBANK after its flush (20_memory.md R47). -/
def setVbank (phi1 phi2 : Addr) (s : State) : State :=
  resolvePointers { s with vbankPhi1 := phi1, vbankPhi2 := phi2 }

/-- SET_RAM_BASE after its flush (20_memory.md R48). -/
def setRamBase (off : BitVec 32) (s : State) : State := resolvePointers { s with ramBaseOffset := off }

/-- VIDEO_RAM_STORE after its flush (20_memory.md R52). -/
def videoRamStore (space : StoreSpace) (a : Addr) (v : Byte) (s : State) : State :=
  match space with
  | .colorRam => s.storeColor (a.extractLsb' 0 10) v
  | .ram => s.storeRam a v

/-! Light pen. -/

/-- The latched X, in sprite coordinates halved (60_exceptions.md R264). -/
def State.penX (s : State) : Byte :=
  BitVec.ofInt 8 ((s.triggerX s.clk - s.cfg.displayX0 + 24) % 512 / 2)

/-- LIGHTPEN_TRIGGER after its flush (60_exceptions.md R264). -/
def lightpenTrigger (s : State) : State :=
  if s.lightPen.triggered then s
  else raiseIrq .ilp { s with lightPen := { triggered := true, x := s.penX, y := BitVec.ofNat 8 s.lineNow } }

end Sys2Proof.Machine
end

