-- ==== Sys2Proof/Machine/Events.lean ====
section
/-! DEFINITION. EVENT, one meaning per number (30_encoding.md R63). The operands that travel beside the word are read
from `State.operands` (log 15). -/

namespace Sys2Proof.Machine

/-- An operation that begins with the flush at the operation's own clock (20_memory.md R55). -/
def afterFlush (f : State → Except Fault State) (s : State) : Host.Outcome State Fault Refusal :=
  answer ((flush 0 s).bind f)

/-- EVENT 00, ADVANCE: 41_scheduler.md R142. -/
def execEventAdvance (s : State) : Host.Outcome State Fault Refusal := answer (advance s)

/-- EVENT 01, HANDLE_PENDING_ALARMS(write_cycles): 41_scheduler.md R144. -/
def execEventHandlePendingAlarms (s : State) : Host.Outcome State Fault Refusal :=
  answer (flush s.operands.writeCycles.toNat s)

/-- EVENT 02, FETCH_ALARM: 41_scheduler.md R146. -/
def execEventFetchAlarm (s : State) : Host.Outcome State Fault Refusal := answer (fetchAlarm s)

/-- EVENT 03, DRAW_ALARM: 41_scheduler.md R147. -/
def execEventDrawAlarm (s : State) : Host.Outcome State Fault Refusal := answer (.ok (drawAlarm s))

/-- EVENT 04, RASTER_IRQ_ALARM: 41_scheduler.md R151. -/
def execEventRasterIrqAlarm (s : State) : Host.Outcome State Fault Refusal := answer (.ok (rasterIrqAlarm s))

/-- EVENT 05, CLOCK_OVERFLOW(sub): 41_scheduler.md R153. -/
def execEventClockOverflow (s : State) : Host.Outcome State Fault Refusal :=
  afterFlush (clockOverflow s.operands.sub) s

/-- EVENT 06, BADLINE_EVAL(old, new, y, c): 42_badline.md R161. -/
def execEventBadlineEval (s : State) : Host.Outcome State Fault Refusal :=
  answer (badlineEval s.operands.oldCr s.operands.newCr s.operands.line s.operands.cycle s)

/-- EVENT 07, FETCH_MATRIX(offset, count): 43_fetch.md R175. -/
def execEventFetchMatrix (s : State) : Host.Outcome State Fault Refusal :=
  answer (fetchMatrix s.operands.offset s.operands.count s)

/-- EVENT 08, CHECK_SPRITE_DMA: 43_fetch.md R180. -/
def execEventCheckSpriteDma (s : State) : Host.Outcome State Fault Refusal := answer (.ok (checkSpriteDma s))

/-- EVENT 09, FETCH_SPRITE: 43_fetch.md R185. -/
def execEventFetchSprite (s : State) : Host.Outcome State Fault Refusal := answer (fetchSprite s)

/-- EVENT 0A, DRAW_LINE: 44_renderer.md R200. -/
def execEventDrawLine (s : State) : Host.Outcome State Fault Refusal := answer (.ok (drawLine s))

/-- EVENT 0B, RESET, which does not flush: 70_reset_and_hazards.md R286. -/
def execEventReset (s : State) : Host.Outcome State Fault Refusal := answer (.ok (resetBlock s))

/-- EVENT 0C, SNAPSHOT_WRITE: 45_snapshot.md R244. -/
def execEventSnapshotWrite (s : State) : Host.Outcome State Fault Refusal := answer (snapshotWrite s)

/-- EVENT 0D, SNAPSHOT_LOAD(version, body), which does not flush: 45_snapshot.md R246. -/
def execEventSnapshotLoad (s : State) : Host.Outcome State Fault Refusal :=
  answer (.ok (snapshotLoad s.operands.version s.operands.body s))

/-- EVENT 0E, SET_VBANK(phi1, phi2): 20_memory.md R47. A value with bits outside 15:14 is refused before anything
happens (60_exceptions.md R280; log 27). -/
def execEventSetVbank (s : State) : Host.Outcome State Fault Refusal :=
  if bankWellFormed s.operands.vbankPhi1 && bankWellFormed s.operands.vbankPhi2 then
    afterFlush (fun s1 => .ok (setVbank s.operands.vbankPhi1 s.operands.vbankPhi2 s1)) s
  else .refused (.illegalBank s.operands.vbankPhi1 s.operands.vbankPhi2)

/-- EVENT 0F, SET_RAM_BASE(off): 20_memory.md R48. -/
def execEventSetRamBase (s : State) : Host.Outcome State Fault Refusal :=
  afterFlush (fun s1 => .ok (setRamBase s.operands.ramBase s1)) s

/-- EVENT 10, LIGHTPEN_TRIGGER: 60_exceptions.md R264. -/
def execEventLightpenTrigger (s : State) : Host.Outcome State Fault Refusal :=
  afterFlush (fun s1 => .ok (lightpenTrigger s1)) s

/-- EVENT 11, VIDEO_RAM_STORE(space, a, v): 20_memory.md R52. -/
def execEventVideoRamStore (s : State) : Host.Outcome State Fault Refusal :=
  afterFlush (fun s1 => .ok (videoRamStore s.operands.space s.operands.addr s.operands.value s1)) s

end Sys2Proof.Machine
end

