-- ==== Sys2Proof/Machine/RegisterFile.lean ====
section
/-! DEFINITION. The register file's handlers, shared by the per-address operations (40_register_file.md R80 to R116):
the value each address reads as, and the effect each address has when written. -/

namespace Sys2Proof.Machine

/-! Values (`READVALUE(a)`, 40_register_file.md R81): every one is OR-ed with `ALWAYS1[a]` (30_encoding.md R66). -/

/-- A read-write or unused address (R82, R87, R115, R116). -/
def State.valueStored (a : RegAddr) (s : State) : Byte := s.reg a ||| s.cfg.always1At a

/-- 0x11: the stored bits 6:0, and bit 8 of the current line in bit 7 (R89). -/
def State.valueCr1 (s : State) : Byte :=
  (s.reg 0x11 &&& 0x7F#8) ||| (if s.lineNow.testBit 8 then 0x80#8 else 0#8) ||| s.cfg.always1At 0x11

/-- 0x12: the low byte of the current line (R91). -/
def State.valueRaster (s : State) : Byte := BitVec.ofNat 8 s.lineNow ||| s.cfg.always1At 0x12

/-- 0x13 (R92). -/
def State.valueLpx (s : State) : Byte := s.lightPen.x ||| s.cfg.always1At 0x13

/-- 0x14 (R92). -/
def State.valueLpy (s : State) : Byte := s.lightPen.y ||| s.cfg.always1At 0x14

/-- 0x19: the pending sources, the request in bit 7 (R101). -/
def State.valueIrq (s : State) : Byte :=
  (s.irqStatus &&& 0x0F#8) ||| (if s.irqLine then 0x80#8 else 0#8) ||| s.cfg.always1At 0x19

/-- 0x1E (R107). -/
def State.valueSpriteSprite (s : State) : Byte := s.spriteSpriteCollisions ||| s.cfg.always1At 0x1E

/-- 0x1F (R109). -/
def State.valueSpriteBackground (s : State) : Byte := s.spriteBackgroundCollisions ||| s.cfg.always1At 0x1F

/-! READ and PEEK (R80 to R82). -/

/-- A READ: the flush, then the value on the state the flush left, then the side effect of the address. -/
def readWith (value : State → Byte) (after : State → State) (s : State) :
    Host.Outcome State Fault Refusal :=
  answer ((flush 0 s).map fun s1 => (after s1).returnRead (value s1))

/-- READ of an address whose read has no side effect of its own (R82). -/
def readPlain (value : State → Byte) (s : State) : Host.Outcome State Fault Refusal := readWith value id s

/-- READ 1E clears the accumulator (R107). -/
def clearSpriteSprite (s : State) : State := { s with spriteSpriteCollisions := 0 }

/-- READ 1F clears the accumulator (R109). -/
def clearSpriteBackground (s : State) : State := { s with spriteBackgroundCollisions := 0 }

/-- A PEEK: the value on the current state, with no flush and no side effect (R81). -/
def peekWith (value : State → Byte) (s : State) : Host.Outcome State Fault Refusal :=
  answer (.ok (s.returnPeek (value s)))

/-! WRITE (R80, R83). -/

/-- A WRITE: the flush rolled back by `wc`, then the effect of the address. -/
def writeWith (wc : BitVec 2) (effect : State → Except Fault State) (s : State) :
    Host.Outcome State Fault Refusal :=
  answer ((flush wc.toNat s).bind effect)

/-- The byte is stored and nothing else happens (R84 to R86, R93, R104). -/
def writeStore (a : RegAddr) (v : Byte) (s : State) : Except Fault State := .ok (s.setReg a v)

/-- Nothing is stored (R92, R108, R110, R116). -/
def writeNothing (s : State) : Except Fault State := .ok s

/-- WRITE 11 up to the bad-line evaluation: the store, the raster compare, `blank`, the border lines, the video mode
and its queued change (R88). -/
def storeCr1 (v : Byte) (s : State) : State :=
  let old := s.reg 0x11
  let s1 := updateRasterCompare (s.setReg 0x11 v)
  let rows := s.cfg.rows (v.getLsbD 3)
  let mode := modeOfRegs v (s.reg 0x16)
  addChangeIf (v.extractLsb' 5 2 != old.extractLsb' 5 2) (.videoMode mode)
    { s1 with blank := !v.getLsbD 4, borderTop := rows.1, borderBottom := rows.2, videoMode := mode }

/-- WRITE 11 (R88): the bad-line status is evaluated with the line and cycle of the write. -/
def writeCr1 (v : Byte) (s : State) : Except Fault State :=
  badlineEval (s.reg 0x11) v s.lineNow s.cycleNow (storeCr1 v s)

/-- WRITE 12 (R90). -/
def writeRaster (v : Byte) (s : State) : Except Fault State := .ok (updateRasterCompare (s.setReg 0x12 v))

/-- WRITE 16 (R94). -/
def writeCr2 (v : Byte) (s : State) : Except Fault State :=
  let old := s.reg 0x16
  let mode := modeOfRegs (s.reg 0x11) v
  let s1 := { s.setReg 0x16 v with videoMode := mode }
  let s2 := addChangeIf (v.extractLsb' 0 3 != old.extractLsb' 0 3) (.xsmooth (v.extractLsb' 0 3)) s1
  let s3 := addChangeIf (v.getLsbD 4 != old.getLsbD 4) (.videoMode mode) s2
  .ok (addChangeIf (v.getLsbD 3 != old.getLsbD 3) (.columnMode (v.getLsbD 3)) s3)

/-- Expansion is turned off while the sprite's flip-flop is 0 (R97). -/
def crunches (v : Byte) (i : SpriteNo) (sp : Sprite) : Bool := !spriteBit v i && !sp.expFlag

/-- WRITE 17 (R97). -/
def writeYxpand (v : Byte) (s : State) : Except Fault State :=
  .ok { s.setReg 0x17 v with
    sprites := Vector.ofFn fun i : SpriteNo =>
      let sp := s.sprites[i]
      if crunches v i sp then
        { sp with
          memptrInc := if s.spriteDmaActive i then s.cfg.crunchAt sp.memptr else sp.memptrInc
          expFlag := true }
      else sp }

/-- WRITE 18 (R98). -/
def writeVmcsb (v : Byte) (s : State) : Except Fault State := .ok (resolvePointers (s.setReg 0x18 v))

/-- WRITE 19, the acknowledge (R100): the byte written is not used and nothing is stored. -/
def writeVicirq (s : State) : Except Fault State := .ok (acknowledgeIrq s)

/-- WRITE 1A (R102). -/
def writeIrqmask (v : Byte) (s : State) : Except Fault State := .ok (updateIrqLine (s.setReg 0x1A v))

/-- WRITE of a colour register (R111): a change is queued when the low nibble changes. -/
def writeColour (a : RegAddr) (target : Colour → TargetValue) (v : Byte) (s : State) : Except Fault State :=
  .ok (addChangeIf (v.extractLsb' 0 4 != s.colour a) (target (v.extractLsb' 0 4)) (s.setReg a v))

end Sys2Proof.Machine
end

