-- ==== Sys2Proof/Machine/Peeks.lean ====
section
/-! DEFINITION. PEEK, one meaning per register address: "side-effect-free debug read" (40_register_file.md R81). -/

namespace Sys2Proof.Machine

/-- PEEK 00 (SP0X): 40_register_file.md R81, the value of R82, R87. -/
def execPeek00 (s : State) : Host.Outcome State Fault Refusal := peekWith (State.valueStored 0x00) s

/-- PEEK 01 (SP0Y): 40_register_file.md R81, the value of R82, R87. -/
def execPeek01 (s : State) : Host.Outcome State Fault Refusal := peekWith (State.valueStored 0x01) s

/-- PEEK 02 (SP1X): 40_register_file.md R81, the value of R82, R87. -/
def execPeek02 (s : State) : Host.Outcome State Fault Refusal := peekWith (State.valueStored 0x02) s

/-- PEEK 03 (SP1Y): 40_register_file.md R81, the value of R82, R87. -/
def execPeek03 (s : State) : Host.Outcome State Fault Refusal := peekWith (State.valueStored 0x03) s

/-- PEEK 04 (SP2X): 40_register_file.md R81, the value of R82, R87. -/
def execPeek04 (s : State) : Host.Outcome State Fault Refusal := peekWith (State.valueStored 0x04) s

/-- PEEK 05 (SP2Y): 40_register_file.md R81, the value of R82, R87. -/
def execPeek05 (s : State) : Host.Outcome State Fault Refusal := peekWith (State.valueStored 0x05) s

/-- PEEK 06 (SP3X): 40_register_file.md R81, the value of R82, R87. -/
def execPeek06 (s : State) : Host.Outcome State Fault Refusal := peekWith (State.valueStored 0x06) s

/-- PEEK 07 (SP3Y): 40_register_file.md R81, the value of R82, R87. -/
def execPeek07 (s : State) : Host.Outcome State Fault Refusal := peekWith (State.valueStored 0x07) s

/-- PEEK 08 (SP4X): 40_register_file.md R81, the value of R82, R87. -/
def execPeek08 (s : State) : Host.Outcome State Fault Refusal := peekWith (State.valueStored 0x08) s

/-- PEEK 09 (SP4Y): 40_register_file.md R81, the value of R82, R87. -/
def execPeek09 (s : State) : Host.Outcome State Fault Refusal := peekWith (State.valueStored 0x09) s

/-- PEEK 0A (SP5X): 40_register_file.md R81, the value of R82, R87. -/
def execPeek0A (s : State) : Host.Outcome State Fault Refusal := peekWith (State.valueStored 0x0A) s

/-- PEEK 0B (SP5Y): 40_register_file.md R81, the value of R82, R87. -/
def execPeek0B (s : State) : Host.Outcome State Fault Refusal := peekWith (State.valueStored 0x0B) s

/-- PEEK 0C (SP6X): 40_register_file.md R81, the value of R82, R87. -/
def execPeek0C (s : State) : Host.Outcome State Fault Refusal := peekWith (State.valueStored 0x0C) s

/-- PEEK 0D (SP6Y): 40_register_file.md R81, the value of R82, R87. -/
def execPeek0D (s : State) : Host.Outcome State Fault Refusal := peekWith (State.valueStored 0x0D) s

/-- PEEK 0E (SP7X): 40_register_file.md R81, the value of R82, R87. -/
def execPeek0E (s : State) : Host.Outcome State Fault Refusal := peekWith (State.valueStored 0x0E) s

/-- PEEK 0F (SP7Y): 40_register_file.md R81, the value of R82, R87. -/
def execPeek0F (s : State) : Host.Outcome State Fault Refusal := peekWith (State.valueStored 0x0F) s

/-- PEEK 10 (MSIGX): 40_register_file.md R81, the value of R82, R87. -/
def execPeek10 (s : State) : Host.Outcome State Fault Refusal := peekWith (State.valueStored 0x10) s

/-- PEEK 11 (CR1): 40_register_file.md R81, the value of R89. -/
def execPeek11 (s : State) : Host.Outcome State Fault Refusal := peekWith State.valueCr1 s

/-- PEEK 12 (RASTER): 40_register_file.md R81, the value of R91. -/
def execPeek12 (s : State) : Host.Outcome State Fault Refusal := peekWith State.valueRaster s

/-- PEEK 13 (LPX): 40_register_file.md R81, the value of R92. -/
def execPeek13 (s : State) : Host.Outcome State Fault Refusal := peekWith State.valueLpx s

/-- PEEK 14 (LPY): 40_register_file.md R81, the value of R92. -/
def execPeek14 (s : State) : Host.Outcome State Fault Refusal := peekWith State.valueLpy s

/-- PEEK 15 (SPENA): 40_register_file.md R81, the value of R82. -/
def execPeek15 (s : State) : Host.Outcome State Fault Refusal := peekWith (State.valueStored 0x15) s

/-- PEEK 16 (CR2): 40_register_file.md R81, the value of R82. -/
def execPeek16 (s : State) : Host.Outcome State Fault Refusal := peekWith (State.valueStored 0x16) s

/-- PEEK 17 (YXPAND): 40_register_file.md R81, the value of R82. -/
def execPeek17 (s : State) : Host.Outcome State Fault Refusal := peekWith (State.valueStored 0x17) s

/-- PEEK 18 (VMCSB): 40_register_file.md R81, the value of R82. -/
def execPeek18 (s : State) : Host.Outcome State Fault Refusal := peekWith (State.valueStored 0x18) s

/-- PEEK 19 (VICIRQ): 40_register_file.md R81, the value of R101. -/
def execPeek19 (s : State) : Host.Outcome State Fault Refusal := peekWith State.valueIrq s

/-- PEEK 1A (IRQMASK): 40_register_file.md R81, the value of R82. -/
def execPeek1A (s : State) : Host.Outcome State Fault Refusal := peekWith (State.valueStored 0x1A) s

/-- PEEK 1B (SPBGPR): 40_register_file.md R81, the value of R82. -/
def execPeek1B (s : State) : Host.Outcome State Fault Refusal := peekWith (State.valueStored 0x1B) s

/-- PEEK 1C (SPMC): 40_register_file.md R81, the value of R82. -/
def execPeek1C (s : State) : Host.Outcome State Fault Refusal := peekWith (State.valueStored 0x1C) s

/-- PEEK 1D (XXPAND): 40_register_file.md R81, the value of R82. -/
def execPeek1D (s : State) : Host.Outcome State Fault Refusal := peekWith (State.valueStored 0x1D) s

/-- PEEK 1E (SPSPCL): 40_register_file.md R81, the value of R107. -/
def execPeek1E (s : State) : Host.Outcome State Fault Refusal := peekWith State.valueSpriteSprite s

/-- PEEK 1F (SPBGCL): 40_register_file.md R81, the value of R109. -/
def execPeek1F (s : State) : Host.Outcome State Fault Refusal := peekWith State.valueSpriteBackground s

/-- PEEK 20 (EXTCOL): 40_register_file.md R81, the value of R82, R115. -/
def execPeek20 (s : State) : Host.Outcome State Fault Refusal := peekWith (State.valueStored 0x20) s

/-- PEEK 21 (BGCOL0): 40_register_file.md R81, the value of R82, R115. -/
def execPeek21 (s : State) : Host.Outcome State Fault Refusal := peekWith (State.valueStored 0x21) s

/-- PEEK 22 (BGCOL1): 40_register_file.md R81, the value of R82, R115. -/
def execPeek22 (s : State) : Host.Outcome State Fault Refusal := peekWith (State.valueStored 0x22) s

/-- PEEK 23 (BGCOL2): 40_register_file.md R81, the value of R82, R115. -/
def execPeek23 (s : State) : Host.Outcome State Fault Refusal := peekWith (State.valueStored 0x23) s

/-- PEEK 24 (BGCOL3): 40_register_file.md R81, the value of R82, R115. -/
def execPeek24 (s : State) : Host.Outcome State Fault Refusal := peekWith (State.valueStored 0x24) s

/-- PEEK 25 (SPMC0): 40_register_file.md R81, the value of R82, R115. -/
def execPeek25 (s : State) : Host.Outcome State Fault Refusal := peekWith (State.valueStored 0x25) s

/-- PEEK 26 (SPMC1): 40_register_file.md R81, the value of R82, R115. -/
def execPeek26 (s : State) : Host.Outcome State Fault Refusal := peekWith (State.valueStored 0x26) s

/-- PEEK 27 (SP0COL): 40_register_file.md R81, the value of R82, R115. -/
def execPeek27 (s : State) : Host.Outcome State Fault Refusal := peekWith (State.valueStored 0x27) s

/-- PEEK 28 (SP1COL): 40_register_file.md R81, the value of R82, R115. -/
def execPeek28 (s : State) : Host.Outcome State Fault Refusal := peekWith (State.valueStored 0x28) s

/-- PEEK 29 (SP2COL): 40_register_file.md R81, the value of R82, R115. -/
def execPeek29 (s : State) : Host.Outcome State Fault Refusal := peekWith (State.valueStored 0x29) s

/-- PEEK 2A (SP3COL): 40_register_file.md R81, the value of R82, R115. -/
def execPeek2A (s : State) : Host.Outcome State Fault Refusal := peekWith (State.valueStored 0x2A) s

/-- PEEK 2B (SP4COL): 40_register_file.md R81, the value of R82, R115. -/
def execPeek2B (s : State) : Host.Outcome State Fault Refusal := peekWith (State.valueStored 0x2B) s

/-- PEEK 2C (SP5COL): 40_register_file.md R81, the value of R82, R115. -/
def execPeek2C (s : State) : Host.Outcome State Fault Refusal := peekWith (State.valueStored 0x2C) s

/-- PEEK 2D (SP6COL): 40_register_file.md R81, the value of R82, R115. -/
def execPeek2D (s : State) : Host.Outcome State Fault Refusal := peekWith (State.valueStored 0x2D) s

/-- PEEK 2E (SP7COL): 40_register_file.md R81, the value of R82, R115. -/
def execPeek2E (s : State) : Host.Outcome State Fault Refusal := peekWith (State.valueStored 0x2E) s

/-- PEEK 2F (no register): 40_register_file.md R81, the value of R116. -/
def execPeek2F (s : State) : Host.Outcome State Fault Refusal := peekWith (State.valueStored 0x2F) s

/-- PEEK 30 (no register): 40_register_file.md R81, the value of R116. -/
def execPeek30 (s : State) : Host.Outcome State Fault Refusal := peekWith (State.valueStored 0x30) s

/-- PEEK 31 (no register): 40_register_file.md R81, the value of R116. -/
def execPeek31 (s : State) : Host.Outcome State Fault Refusal := peekWith (State.valueStored 0x31) s

/-- PEEK 32 (no register): 40_register_file.md R81, the value of R116. -/
def execPeek32 (s : State) : Host.Outcome State Fault Refusal := peekWith (State.valueStored 0x32) s

/-- PEEK 33 (no register): 40_register_file.md R81, the value of R116. -/
def execPeek33 (s : State) : Host.Outcome State Fault Refusal := peekWith (State.valueStored 0x33) s

/-- PEEK 34 (no register): 40_register_file.md R81, the value of R116. -/
def execPeek34 (s : State) : Host.Outcome State Fault Refusal := peekWith (State.valueStored 0x34) s

/-- PEEK 35 (no register): 40_register_file.md R81, the value of R116. -/
def execPeek35 (s : State) : Host.Outcome State Fault Refusal := peekWith (State.valueStored 0x35) s

/-- PEEK 36 (no register): 40_register_file.md R81, the value of R116. -/
def execPeek36 (s : State) : Host.Outcome State Fault Refusal := peekWith (State.valueStored 0x36) s

/-- PEEK 37 (no register): 40_register_file.md R81, the value of R116. -/
def execPeek37 (s : State) : Host.Outcome State Fault Refusal := peekWith (State.valueStored 0x37) s

/-- PEEK 38 (no register): 40_register_file.md R81, the value of R116. -/
def execPeek38 (s : State) : Host.Outcome State Fault Refusal := peekWith (State.valueStored 0x38) s

/-- PEEK 39 (no register): 40_register_file.md R81, the value of R116. -/
def execPeek39 (s : State) : Host.Outcome State Fault Refusal := peekWith (State.valueStored 0x39) s

/-- PEEK 3A (no register): 40_register_file.md R81, the value of R116. -/
def execPeek3A (s : State) : Host.Outcome State Fault Refusal := peekWith (State.valueStored 0x3A) s

/-- PEEK 3B (no register): 40_register_file.md R81, the value of R116. -/
def execPeek3B (s : State) : Host.Outcome State Fault Refusal := peekWith (State.valueStored 0x3B) s

/-- PEEK 3C (no register): 40_register_file.md R81, the value of R116. -/
def execPeek3C (s : State) : Host.Outcome State Fault Refusal := peekWith (State.valueStored 0x3C) s

/-- PEEK 3D (no register): 40_register_file.md R81, the value of R116. -/
def execPeek3D (s : State) : Host.Outcome State Fault Refusal := peekWith (State.valueStored 0x3D) s

/-- PEEK 3E (no register): 40_register_file.md R81, the value of R116. -/
def execPeek3E (s : State) : Host.Outcome State Fault Refusal := peekWith (State.valueStored 0x3E) s

/-- PEEK 3F (no register): 40_register_file.md R81, the value of R116. -/
def execPeek3F (s : State) : Host.Outcome State Fault Refusal := peekWith (State.valueStored 0x3F) s

end Sys2Proof.Machine
end

