-- ==== Sys2Proof/Machine/Reads.lean ====
section
/-! DEFINITION. READ, one meaning per register address (40_register_file.md R80 to R116). -/

namespace Sys2Proof.Machine

/-- READ 00 (SP0X): 40_register_file.md R82, R87. -/
def execRead00 (s : State) : Host.Outcome State Fault Refusal := readPlain (State.valueStored 0x00) s

/-- READ 01 (SP0Y): 40_register_file.md R82, R87. -/
def execRead01 (s : State) : Host.Outcome State Fault Refusal := readPlain (State.valueStored 0x01) s

/-- READ 02 (SP1X): 40_register_file.md R82, R87. -/
def execRead02 (s : State) : Host.Outcome State Fault Refusal := readPlain (State.valueStored 0x02) s

/-- READ 03 (SP1Y): 40_register_file.md R82, R87. -/
def execRead03 (s : State) : Host.Outcome State Fault Refusal := readPlain (State.valueStored 0x03) s

/-- READ 04 (SP2X): 40_register_file.md R82, R87. -/
def execRead04 (s : State) : Host.Outcome State Fault Refusal := readPlain (State.valueStored 0x04) s

/-- READ 05 (SP2Y): 40_register_file.md R82, R87. -/
def execRead05 (s : State) : Host.Outcome State Fault Refusal := readPlain (State.valueStored 0x05) s

/-- READ 06 (SP3X): 40_register_file.md R82, R87. -/
def execRead06 (s : State) : Host.Outcome State Fault Refusal := readPlain (State.valueStored 0x06) s

/-- READ 07 (SP3Y): 40_register_file.md R82, R87. -/
def execRead07 (s : State) : Host.Outcome State Fault Refusal := readPlain (State.valueStored 0x07) s

/-- READ 08 (SP4X): 40_register_file.md R82, R87. -/
def execRead08 (s : State) : Host.Outcome State Fault Refusal := readPlain (State.valueStored 0x08) s

/-- READ 09 (SP4Y): 40_register_file.md R82, R87. -/
def execRead09 (s : State) : Host.Outcome State Fault Refusal := readPlain (State.valueStored 0x09) s

/-- READ 0A (SP5X): 40_register_file.md R82, R87. -/
def execRead0A (s : State) : Host.Outcome State Fault Refusal := readPlain (State.valueStored 0x0A) s

/-- READ 0B (SP5Y): 40_register_file.md R82, R87. -/
def execRead0B (s : State) : Host.Outcome State Fault Refusal := readPlain (State.valueStored 0x0B) s

/-- READ 0C (SP6X): 40_register_file.md R82, R87. -/
def execRead0C (s : State) : Host.Outcome State Fault Refusal := readPlain (State.valueStored 0x0C) s

/-- READ 0D (SP6Y): 40_register_file.md R82, R87. -/
def execRead0D (s : State) : Host.Outcome State Fault Refusal := readPlain (State.valueStored 0x0D) s

/-- READ 0E (SP7X): 40_register_file.md R82, R87. -/
def execRead0E (s : State) : Host.Outcome State Fault Refusal := readPlain (State.valueStored 0x0E) s

/-- READ 0F (SP7Y): 40_register_file.md R82, R87. -/
def execRead0F (s : State) : Host.Outcome State Fault Refusal := readPlain (State.valueStored 0x0F) s

/-- READ 10 (MSIGX): 40_register_file.md R82, R87. -/
def execRead10 (s : State) : Host.Outcome State Fault Refusal := readPlain (State.valueStored 0x10) s

/-- READ 11 (CR1): 40_register_file.md R89. -/
def execRead11 (s : State) : Host.Outcome State Fault Refusal := readPlain State.valueCr1 s

/-- READ 12 (RASTER): 40_register_file.md R91. -/
def execRead12 (s : State) : Host.Outcome State Fault Refusal := readPlain State.valueRaster s

/-- READ 13 (LPX): 40_register_file.md R92. -/
def execRead13 (s : State) : Host.Outcome State Fault Refusal := readPlain State.valueLpx s

/-- READ 14 (LPY): 40_register_file.md R92. -/
def execRead14 (s : State) : Host.Outcome State Fault Refusal := readPlain State.valueLpy s

/-- READ 15 (SPENA): 40_register_file.md R82. -/
def execRead15 (s : State) : Host.Outcome State Fault Refusal := readPlain (State.valueStored 0x15) s

/-- READ 16 (CR2): 40_register_file.md R82. -/
def execRead16 (s : State) : Host.Outcome State Fault Refusal := readPlain (State.valueStored 0x16) s

/-- READ 17 (YXPAND): 40_register_file.md R82. -/
def execRead17 (s : State) : Host.Outcome State Fault Refusal := readPlain (State.valueStored 0x17) s

/-- READ 18 (VMCSB): 40_register_file.md R82. -/
def execRead18 (s : State) : Host.Outcome State Fault Refusal := readPlain (State.valueStored 0x18) s

/-- READ 19 (VICIRQ): 40_register_file.md R101. -/
def execRead19 (s : State) : Host.Outcome State Fault Refusal := readPlain State.valueIrq s

/-- READ 1A (IRQMASK): 40_register_file.md R82. -/
def execRead1A (s : State) : Host.Outcome State Fault Refusal := readPlain (State.valueStored 0x1A) s

/-- READ 1B (SPBGPR): 40_register_file.md R82. -/
def execRead1B (s : State) : Host.Outcome State Fault Refusal := readPlain (State.valueStored 0x1B) s

/-- READ 1C (SPMC): 40_register_file.md R82. -/
def execRead1C (s : State) : Host.Outcome State Fault Refusal := readPlain (State.valueStored 0x1C) s

/-- READ 1D (XXPAND): 40_register_file.md R82. -/
def execRead1D (s : State) : Host.Outcome State Fault Refusal := readPlain (State.valueStored 0x1D) s

/-- READ 1E (SPSPCL): 40_register_file.md R107. -/
def execRead1E (s : State) : Host.Outcome State Fault Refusal := readWith State.valueSpriteSprite clearSpriteSprite s

/-- READ 1F (SPBGCL): 40_register_file.md R109. -/
def execRead1F (s : State) : Host.Outcome State Fault Refusal := readWith State.valueSpriteBackground clearSpriteBackground s

/-- READ 20 (EXTCOL): 40_register_file.md R82, R115. -/
def execRead20 (s : State) : Host.Outcome State Fault Refusal := readPlain (State.valueStored 0x20) s

/-- READ 21 (BGCOL0): 40_register_file.md R82, R115. -/
def execRead21 (s : State) : Host.Outcome State Fault Refusal := readPlain (State.valueStored 0x21) s

/-- READ 22 (BGCOL1): 40_register_file.md R82, R115. -/
def execRead22 (s : State) : Host.Outcome State Fault Refusal := readPlain (State.valueStored 0x22) s

/-- READ 23 (BGCOL2): 40_register_file.md R82, R115. -/
def execRead23 (s : State) : Host.Outcome State Fault Refusal := readPlain (State.valueStored 0x23) s

/-- READ 24 (BGCOL3): 40_register_file.md R82, R115. -/
def execRead24 (s : State) : Host.Outcome State Fault Refusal := readPlain (State.valueStored 0x24) s

/-- READ 25 (SPMC0): 40_register_file.md R82, R115. -/
def execRead25 (s : State) : Host.Outcome State Fault Refusal := readPlain (State.valueStored 0x25) s

/-- READ 26 (SPMC1): 40_register_file.md R82, R115. -/
def execRead26 (s : State) : Host.Outcome State Fault Refusal := readPlain (State.valueStored 0x26) s

/-- READ 27 (SP0COL): 40_register_file.md R82, R115. -/
def execRead27 (s : State) : Host.Outcome State Fault Refusal := readPlain (State.valueStored 0x27) s

/-- READ 28 (SP1COL): 40_register_file.md R82, R115. -/
def execRead28 (s : State) : Host.Outcome State Fault Refusal := readPlain (State.valueStored 0x28) s

/-- READ 29 (SP2COL): 40_register_file.md R82, R115. -/
def execRead29 (s : State) : Host.Outcome State Fault Refusal := readPlain (State.valueStored 0x29) s

/-- READ 2A (SP3COL): 40_register_file.md R82, R115. -/
def execRead2A (s : State) : Host.Outcome State Fault Refusal := readPlain (State.valueStored 0x2A) s

/-- READ 2B (SP4COL): 40_register_file.md R82, R115. -/
def execRead2B (s : State) : Host.Outcome State Fault Refusal := readPlain (State.valueStored 0x2B) s

/-- READ 2C (SP5COL): 40_register_file.md R82, R115. -/
def execRead2C (s : State) : Host.Outcome State Fault Refusal := readPlain (State.valueStored 0x2C) s

/-- READ 2D (SP6COL): 40_register_file.md R82, R115. -/
def execRead2D (s : State) : Host.Outcome State Fault Refusal := readPlain (State.valueStored 0x2D) s

/-- READ 2E (SP7COL): 40_register_file.md R82, R115. -/
def execRead2E (s : State) : Host.Outcome State Fault Refusal := readPlain (State.valueStored 0x2E) s

/-- READ 2F (no register): 40_register_file.md R116. -/
def execRead2F (s : State) : Host.Outcome State Fault Refusal := readPlain (State.valueStored 0x2F) s

/-- READ 30 (no register): 40_register_file.md R116. -/
def execRead30 (s : State) : Host.Outcome State Fault Refusal := readPlain (State.valueStored 0x30) s

/-- READ 31 (no register): 40_register_file.md R116. -/
def execRead31 (s : State) : Host.Outcome State Fault Refusal := readPlain (State.valueStored 0x31) s

/-- READ 32 (no register): 40_register_file.md R116. -/
def execRead32 (s : State) : Host.Outcome State Fault Refusal := readPlain (State.valueStored 0x32) s

/-- READ 33 (no register): 40_register_file.md R116. -/
def execRead33 (s : State) : Host.Outcome State Fault Refusal := readPlain (State.valueStored 0x33) s

/-- READ 34 (no register): 40_register_file.md R116. -/
def execRead34 (s : State) : Host.Outcome State Fault Refusal := readPlain (State.valueStored 0x34) s

/-- READ 35 (no register): 40_register_file.md R116. -/
def execRead35 (s : State) : Host.Outcome State Fault Refusal := readPlain (State.valueStored 0x35) s

/-- READ 36 (no register): 40_register_file.md R116. -/
def execRead36 (s : State) : Host.Outcome State Fault Refusal := readPlain (State.valueStored 0x36) s

/-- READ 37 (no register): 40_register_file.md R116. -/
def execRead37 (s : State) : Host.Outcome State Fault Refusal := readPlain (State.valueStored 0x37) s

/-- READ 38 (no register): 40_register_file.md R116. -/
def execRead38 (s : State) : Host.Outcome State Fault Refusal := readPlain (State.valueStored 0x38) s

/-- READ 39 (no register): 40_register_file.md R116. -/
def execRead39 (s : State) : Host.Outcome State Fault Refusal := readPlain (State.valueStored 0x39) s

/-- READ 3A (no register): 40_register_file.md R116. -/
def execRead3A (s : State) : Host.Outcome State Fault Refusal := readPlain (State.valueStored 0x3A) s

/-- READ 3B (no register): 40_register_file.md R116. -/
def execRead3B (s : State) : Host.Outcome State Fault Refusal := readPlain (State.valueStored 0x3B) s

/-- READ 3C (no register): 40_register_file.md R116. -/
def execRead3C (s : State) : Host.Outcome State Fault Refusal := readPlain (State.valueStored 0x3C) s

/-- READ 3D (no register): 40_register_file.md R116. -/
def execRead3D (s : State) : Host.Outcome State Fault Refusal := readPlain (State.valueStored 0x3D) s

/-- READ 3E (no register): 40_register_file.md R116. -/
def execRead3E (s : State) : Host.Outcome State Fault Refusal := readPlain (State.valueStored 0x3E) s

/-- READ 3F (no register): 40_register_file.md R116. -/
def execRead3F (s : State) : Host.Outcome State Fault Refusal := readPlain (State.valueStored 0x3F) s

end Sys2Proof.Machine
end

