-- ==== Sys2Proof/Machine/Writes.lean ====
section
/-! DEFINITION. WRITE, one meaning per register address (40_register_file.md R80, R83 to R116). `wc` is the
`write_cycles` of the flush, `v` the byte written. -/

namespace Sys2Proof.Machine

/-- WRITE 00 (SP0X): 40_register_file.md R84. -/
def execWrite00 (wc : BitVec 2) (v : Byte) (s : State) : Host.Outcome State Fault Refusal :=
  writeWith wc (writeStore 0x00 v) s

/-- WRITE 01 (SP0Y): 40_register_file.md R85. -/
def execWrite01 (wc : BitVec 2) (v : Byte) (s : State) : Host.Outcome State Fault Refusal :=
  writeWith wc (writeStore 0x01 v) s

/-- WRITE 02 (SP1X): 40_register_file.md R84. -/
def execWrite02 (wc : BitVec 2) (v : Byte) (s : State) : Host.Outcome State Fault Refusal :=
  writeWith wc (writeStore 0x02 v) s

/-- WRITE 03 (SP1Y): 40_register_file.md R85. -/
def execWrite03 (wc : BitVec 2) (v : Byte) (s : State) : Host.Outcome State Fault Refusal :=
  writeWith wc (writeStore 0x03 v) s

/-- WRITE 04 (SP2X): 40_register_file.md R84. -/
def execWrite04 (wc : BitVec 2) (v : Byte) (s : State) : Host.Outcome State Fault Refusal :=
  writeWith wc (writeStore 0x04 v) s

/-- WRITE 05 (SP2Y): 40_register_file.md R85. -/
def execWrite05 (wc : BitVec 2) (v : Byte) (s : State) : Host.Outcome State Fault Refusal :=
  writeWith wc (writeStore 0x05 v) s

/-- WRITE 06 (SP3X): 40_register_file.md R84. -/
def execWrite06 (wc : BitVec 2) (v : Byte) (s : State) : Host.Outcome State Fault Refusal :=
  writeWith wc (writeStore 0x06 v) s

/-- WRITE 07 (SP3Y): 40_register_file.md R85. -/
def execWrite07 (wc : BitVec 2) (v : Byte) (s : State) : Host.Outcome State Fault Refusal :=
  writeWith wc (writeStore 0x07 v) s

/-- WRITE 08 (SP4X): 40_register_file.md R84. -/
def execWrite08 (wc : BitVec 2) (v : Byte) (s : State) : Host.Outcome State Fault Refusal :=
  writeWith wc (writeStore 0x08 v) s

/-- WRITE 09 (SP4Y): 40_register_file.md R85. -/
def execWrite09 (wc : BitVec 2) (v : Byte) (s : State) : Host.Outcome State Fault Refusal :=
  writeWith wc (writeStore 0x09 v) s

/-- WRITE 0A (SP5X): 40_register_file.md R84. -/
def execWrite0A (wc : BitVec 2) (v : Byte) (s : State) : Host.Outcome State Fault Refusal :=
  writeWith wc (writeStore 0x0A v) s

/-- WRITE 0B (SP5Y): 40_register_file.md R85. -/
def execWrite0B (wc : BitVec 2) (v : Byte) (s : State) : Host.Outcome State Fault Refusal :=
  writeWith wc (writeStore 0x0B v) s

/-- WRITE 0C (SP6X): 40_register_file.md R84. -/
def execWrite0C (wc : BitVec 2) (v : Byte) (s : State) : Host.Outcome State Fault Refusal :=
  writeWith wc (writeStore 0x0C v) s

/-- WRITE 0D (SP6Y): 40_register_file.md R85. -/
def execWrite0D (wc : BitVec 2) (v : Byte) (s : State) : Host.Outcome State Fault Refusal :=
  writeWith wc (writeStore 0x0D v) s

/-- WRITE 0E (SP7X): 40_register_file.md R84. -/
def execWrite0E (wc : BitVec 2) (v : Byte) (s : State) : Host.Outcome State Fault Refusal :=
  writeWith wc (writeStore 0x0E v) s

/-- WRITE 0F (SP7Y): 40_register_file.md R85. -/
def execWrite0F (wc : BitVec 2) (v : Byte) (s : State) : Host.Outcome State Fault Refusal :=
  writeWith wc (writeStore 0x0F v) s

/-- WRITE 10 (MSIGX): 40_register_file.md R86. -/
def execWrite10 (wc : BitVec 2) (v : Byte) (s : State) : Host.Outcome State Fault Refusal :=
  writeWith wc (writeStore 0x10 v) s

/-- WRITE 11 (CR1): 40_register_file.md R88. -/
def execWrite11 (wc : BitVec 2) (v : Byte) (s : State) : Host.Outcome State Fault Refusal :=
  writeWith wc (writeCr1 v) s

/-- WRITE 12 (RASTER): 40_register_file.md R90. -/
def execWrite12 (wc : BitVec 2) (v : Byte) (s : State) : Host.Outcome State Fault Refusal :=
  writeWith wc (writeRaster v) s

/-- WRITE 13 (LPX): 40_register_file.md R92; the byte written is not used. -/
def execWrite13 (wc : BitVec 2) (_v : Byte) (s : State) : Host.Outcome State Fault Refusal :=
  writeWith wc writeNothing s

/-- WRITE 14 (LPY): 40_register_file.md R92; the byte written is not used. -/
def execWrite14 (wc : BitVec 2) (_v : Byte) (s : State) : Host.Outcome State Fault Refusal :=
  writeWith wc writeNothing s

/-- WRITE 15 (SPENA): 40_register_file.md R93. -/
def execWrite15 (wc : BitVec 2) (v : Byte) (s : State) : Host.Outcome State Fault Refusal :=
  writeWith wc (writeStore 0x15 v) s

/-- WRITE 16 (CR2): 40_register_file.md R94. -/
def execWrite16 (wc : BitVec 2) (v : Byte) (s : State) : Host.Outcome State Fault Refusal :=
  writeWith wc (writeCr2 v) s

/-- WRITE 17 (YXPAND): 40_register_file.md R97. -/
def execWrite17 (wc : BitVec 2) (v : Byte) (s : State) : Host.Outcome State Fault Refusal :=
  writeWith wc (writeYxpand v) s

/-- WRITE 18 (VMCSB): 40_register_file.md R98. -/
def execWrite18 (wc : BitVec 2) (v : Byte) (s : State) : Host.Outcome State Fault Refusal :=
  writeWith wc (writeVmcsb v) s

/-- WRITE 19 (VICIRQ): 40_register_file.md R100; the byte written is not used. -/
def execWrite19 (wc : BitVec 2) (_v : Byte) (s : State) : Host.Outcome State Fault Refusal :=
  writeWith wc writeVicirq s

/-- WRITE 1A (IRQMASK): 40_register_file.md R102. -/
def execWrite1A (wc : BitVec 2) (v : Byte) (s : State) : Host.Outcome State Fault Refusal :=
  writeWith wc (writeIrqmask v) s

/-- WRITE 1B (SPBGPR): 40_register_file.md R104. -/
def execWrite1B (wc : BitVec 2) (v : Byte) (s : State) : Host.Outcome State Fault Refusal :=
  writeWith wc (writeStore 0x1B v) s

/-- WRITE 1C (SPMC): 40_register_file.md R104. -/
def execWrite1C (wc : BitVec 2) (v : Byte) (s : State) : Host.Outcome State Fault Refusal :=
  writeWith wc (writeStore 0x1C v) s

/-- WRITE 1D (XXPAND): 40_register_file.md R104. -/
def execWrite1D (wc : BitVec 2) (v : Byte) (s : State) : Host.Outcome State Fault Refusal :=
  writeWith wc (writeStore 0x1D v) s

/-- WRITE 1E (SPSPCL): 40_register_file.md R108; the byte written is not used. -/
def execWrite1E (wc : BitVec 2) (_v : Byte) (s : State) : Host.Outcome State Fault Refusal :=
  writeWith wc writeNothing s

/-- WRITE 1F (SPBGCL): 40_register_file.md R110; the byte written is not used. -/
def execWrite1F (wc : BitVec 2) (_v : Byte) (s : State) : Host.Outcome State Fault Refusal :=
  writeWith wc writeNothing s

/-- WRITE 20 (EXTCOL): 40_register_file.md R111. -/
def execWrite20 (wc : BitVec 2) (v : Byte) (s : State) : Host.Outcome State Fault Refusal :=
  writeWith wc (writeColour 0x20 .borderColor v) s

/-- WRITE 21 (BGCOL0): 40_register_file.md R111. -/
def execWrite21 (wc : BitVec 2) (v : Byte) (s : State) : Host.Outcome State Fault Refusal :=
  writeWith wc (writeColour 0x21 (.backgroundColor 0) v) s

/-- WRITE 22 (BGCOL1): 40_register_file.md R111. -/
def execWrite22 (wc : BitVec 2) (v : Byte) (s : State) : Host.Outcome State Fault Refusal :=
  writeWith wc (writeColour 0x22 (.backgroundColor 1) v) s

/-- WRITE 23 (BGCOL2): 40_register_file.md R111. -/
def execWrite23 (wc : BitVec 2) (v : Byte) (s : State) : Host.Outcome State Fault Refusal :=
  writeWith wc (writeColour 0x23 (.backgroundColor 2) v) s

/-- WRITE 24 (BGCOL3): 40_register_file.md R111. -/
def execWrite24 (wc : BitVec 2) (v : Byte) (s : State) : Host.Outcome State Fault Refusal :=
  writeWith wc (writeColour 0x24 (.backgroundColor 3) v) s

/-- WRITE 25 (SPMC0): 40_register_file.md R111. -/
def execWrite25 (wc : BitVec 2) (v : Byte) (s : State) : Host.Outcome State Fault Refusal :=
  writeWith wc (writeColour 0x25 (.spriteMc 0) v) s

/-- WRITE 26 (SPMC1): 40_register_file.md R111. -/
def execWrite26 (wc : BitVec 2) (v : Byte) (s : State) : Host.Outcome State Fault Refusal :=
  writeWith wc (writeColour 0x26 (.spriteMc 1) v) s

/-- WRITE 27 (SP0COL): 40_register_file.md R111. -/
def execWrite27 (wc : BitVec 2) (v : Byte) (s : State) : Host.Outcome State Fault Refusal :=
  writeWith wc (writeColour 0x27 (.spriteColor 0) v) s

/-- WRITE 28 (SP1COL): 40_register_file.md R111. -/
def execWrite28 (wc : BitVec 2) (v : Byte) (s : State) : Host.Outcome State Fault Refusal :=
  writeWith wc (writeColour 0x28 (.spriteColor 1) v) s

/-- WRITE 29 (SP2COL): 40_register_file.md R111. -/
def execWrite29 (wc : BitVec 2) (v : Byte) (s : State) : Host.Outcome State Fault Refusal :=
  writeWith wc (writeColour 0x29 (.spriteColor 2) v) s

/-- WRITE 2A (SP3COL): 40_register_file.md R111. -/
def execWrite2A (wc : BitVec 2) (v : Byte) (s : State) : Host.Outcome State Fault Refusal :=
  writeWith wc (writeColour 0x2A (.spriteColor 3) v) s

/-- WRITE 2B (SP4COL): 40_register_file.md R111. -/
def execWrite2B (wc : BitVec 2) (v : Byte) (s : State) : Host.Outcome State Fault Refusal :=
  writeWith wc (writeColour 0x2B (.spriteColor 4) v) s

/-- WRITE 2C (SP5COL): 40_register_file.md R111. -/
def execWrite2C (wc : BitVec 2) (v : Byte) (s : State) : Host.Outcome State Fault Refusal :=
  writeWith wc (writeColour 0x2C (.spriteColor 5) v) s

/-- WRITE 2D (SP6COL): 40_register_file.md R111. -/
def execWrite2D (wc : BitVec 2) (v : Byte) (s : State) : Host.Outcome State Fault Refusal :=
  writeWith wc (writeColour 0x2D (.spriteColor 6) v) s

/-- WRITE 2E (SP7COL): 40_register_file.md R111. -/
def execWrite2E (wc : BitVec 2) (v : Byte) (s : State) : Host.Outcome State Fault Refusal :=
  writeWith wc (writeColour 0x2E (.spriteColor 7) v) s

/-- WRITE 2F (no register): 40_register_file.md R116; the byte written is not used. -/
def execWrite2F (wc : BitVec 2) (_v : Byte) (s : State) : Host.Outcome State Fault Refusal :=
  writeWith wc writeNothing s

/-- WRITE 30 (no register): 40_register_file.md R116; the byte written is not used. -/
def execWrite30 (wc : BitVec 2) (_v : Byte) (s : State) : Host.Outcome State Fault Refusal :=
  writeWith wc writeNothing s

/-- WRITE 31 (no register): 40_register_file.md R116; the byte written is not used. -/
def execWrite31 (wc : BitVec 2) (_v : Byte) (s : State) : Host.Outcome State Fault Refusal :=
  writeWith wc writeNothing s

/-- WRITE 32 (no register): 40_register_file.md R116; the byte written is not used. -/
def execWrite32 (wc : BitVec 2) (_v : Byte) (s : State) : Host.Outcome State Fault Refusal :=
  writeWith wc writeNothing s

/-- WRITE 33 (no register): 40_register_file.md R116; the byte written is not used. -/
def execWrite33 (wc : BitVec 2) (_v : Byte) (s : State) : Host.Outcome State Fault Refusal :=
  writeWith wc writeNothing s

/-- WRITE 34 (no register): 40_register_file.md R116; the byte written is not used. -/
def execWrite34 (wc : BitVec 2) (_v : Byte) (s : State) : Host.Outcome State Fault Refusal :=
  writeWith wc writeNothing s

/-- WRITE 35 (no register): 40_register_file.md R116; the byte written is not used. -/
def execWrite35 (wc : BitVec 2) (_v : Byte) (s : State) : Host.Outcome State Fault Refusal :=
  writeWith wc writeNothing s

/-- WRITE 36 (no register): 40_register_file.md R116; the byte written is not used. -/
def execWrite36 (wc : BitVec 2) (_v : Byte) (s : State) : Host.Outcome State Fault Refusal :=
  writeWith wc writeNothing s

/-- WRITE 37 (no register): 40_register_file.md R116; the byte written is not used. -/
def execWrite37 (wc : BitVec 2) (_v : Byte) (s : State) : Host.Outcome State Fault Refusal :=
  writeWith wc writeNothing s

/-- WRITE 38 (no register): 40_register_file.md R116; the byte written is not used. -/
def execWrite38 (wc : BitVec 2) (_v : Byte) (s : State) : Host.Outcome State Fault Refusal :=
  writeWith wc writeNothing s

/-- WRITE 39 (no register): 40_register_file.md R116; the byte written is not used. -/
def execWrite39 (wc : BitVec 2) (_v : Byte) (s : State) : Host.Outcome State Fault Refusal :=
  writeWith wc writeNothing s

/-- WRITE 3A (no register): 40_register_file.md R116; the byte written is not used. -/
def execWrite3A (wc : BitVec 2) (_v : Byte) (s : State) : Host.Outcome State Fault Refusal :=
  writeWith wc writeNothing s

/-- WRITE 3B (no register): 40_register_file.md R116; the byte written is not used. -/
def execWrite3B (wc : BitVec 2) (_v : Byte) (s : State) : Host.Outcome State Fault Refusal :=
  writeWith wc writeNothing s

/-- WRITE 3C (no register): 40_register_file.md R116; the byte written is not used. -/
def execWrite3C (wc : BitVec 2) (_v : Byte) (s : State) : Host.Outcome State Fault Refusal :=
  writeWith wc writeNothing s

/-- WRITE 3D (no register): 40_register_file.md R116; the byte written is not used. -/
def execWrite3D (wc : BitVec 2) (_v : Byte) (s : State) : Host.Outcome State Fault Refusal :=
  writeWith wc writeNothing s

/-- WRITE 3E (no register): 40_register_file.md R116; the byte written is not used. -/
def execWrite3E (wc : BitVec 2) (_v : Byte) (s : State) : Host.Outcome State Fault Refusal :=
  writeWith wc writeNothing s

/-- WRITE 3F (no register): 40_register_file.md R116; the byte written is not used. -/
def execWrite3F (wc : BitVec 2) (_v : Byte) (s : State) : Host.Outcome State Fault Refusal :=
  writeWith wc writeNothing s

end Sys2Proof.Machine
end

