-- ==== Sys2Proof/Machine/Dispatch.lean ====
section
/-! DEFINITION. One arm per operation, each a direct call of its meaning. -/

namespace Sys2Proof.Machine

def exec (i : Instr) (s : State) : Host.Outcome State Fault Refusal :=
  match i with
  | .read00 => Sys2Proof.Machine.execRead00 s
  | .read01 => Sys2Proof.Machine.execRead01 s
  | .read02 => Sys2Proof.Machine.execRead02 s
  | .read03 => Sys2Proof.Machine.execRead03 s
  | .read04 => Sys2Proof.Machine.execRead04 s
  | .read05 => Sys2Proof.Machine.execRead05 s
  | .read06 => Sys2Proof.Machine.execRead06 s
  | .read07 => Sys2Proof.Machine.execRead07 s
  | .read08 => Sys2Proof.Machine.execRead08 s
  | .read09 => Sys2Proof.Machine.execRead09 s
  | .read0A => Sys2Proof.Machine.execRead0A s
  | .read0B => Sys2Proof.Machine.execRead0B s
  | .read0C => Sys2Proof.Machine.execRead0C s
  | .read0D => Sys2Proof.Machine.execRead0D s
  | .read0E => Sys2Proof.Machine.execRead0E s
  | .read0F => Sys2Proof.Machine.execRead0F s
  | .read10 => Sys2Proof.Machine.execRead10 s
  | .read11 => Sys2Proof.Machine.execRead11 s
  | .read12 => Sys2Proof.Machine.execRead12 s
  | .read13 => Sys2Proof.Machine.execRead13 s
  | .read14 => Sys2Proof.Machine.execRead14 s
  | .read15 => Sys2Proof.Machine.execRead15 s
  | .read16 => Sys2Proof.Machine.execRead16 s
  | .read17 => Sys2Proof.Machine.execRead17 s
  | .read18 => Sys2Proof.Machine.execRead18 s
  | .read19 => Sys2Proof.Machine.execRead19 s
  | .read1A => Sys2Proof.Machine.execRead1A s
  | .read1B => Sys2Proof.Machine.execRead1B s
  | .read1C => Sys2Proof.Machine.execRead1C s
  | .read1D => Sys2Proof.Machine.execRead1D s
  | .read1E => Sys2Proof.Machine.execRead1E s
  | .read1F => Sys2Proof.Machine.execRead1F s
  | .read20 => Sys2Proof.Machine.execRead20 s
  | .read21 => Sys2Proof.Machine.execRead21 s
  | .read22 => Sys2Proof.Machine.execRead22 s
  | .read23 => Sys2Proof.Machine.execRead23 s
  | .read24 => Sys2Proof.Machine.execRead24 s
  | .read25 => Sys2Proof.Machine.execRead25 s
  | .read26 => Sys2Proof.Machine.execRead26 s
  | .read27 => Sys2Proof.Machine.execRead27 s
  | .read28 => Sys2Proof.Machine.execRead28 s
  | .read29 => Sys2Proof.Machine.execRead29 s
  | .read2A => Sys2Proof.Machine.execRead2A s
  | .read2B => Sys2Proof.Machine.execRead2B s
  | .read2C => Sys2Proof.Machine.execRead2C s
  | .read2D => Sys2Proof.Machine.execRead2D s
  | .read2E => Sys2Proof.Machine.execRead2E s
  | .read2F => Sys2Proof.Machine.execRead2F s
  | .read30 => Sys2Proof.Machine.execRead30 s
  | .read31 => Sys2Proof.Machine.execRead31 s
  | .read32 => Sys2Proof.Machine.execRead32 s
  | .read33 => Sys2Proof.Machine.execRead33 s
  | .read34 => Sys2Proof.Machine.execRead34 s
  | .read35 => Sys2Proof.Machine.execRead35 s
  | .read36 => Sys2Proof.Machine.execRead36 s
  | .read37 => Sys2Proof.Machine.execRead37 s
  | .read38 => Sys2Proof.Machine.execRead38 s
  | .read39 => Sys2Proof.Machine.execRead39 s
  | .read3A => Sys2Proof.Machine.execRead3A s
  | .read3B => Sys2Proof.Machine.execRead3B s
  | .read3C => Sys2Proof.Machine.execRead3C s
  | .read3D => Sys2Proof.Machine.execRead3D s
  | .read3E => Sys2Proof.Machine.execRead3E s
  | .read3F => Sys2Proof.Machine.execRead3F s
  | .write00 wc v => Sys2Proof.Machine.execWrite00 wc v s
  | .write01 wc v => Sys2Proof.Machine.execWrite01 wc v s
  | .write02 wc v => Sys2Proof.Machine.execWrite02 wc v s
  | .write03 wc v => Sys2Proof.Machine.execWrite03 wc v s
  | .write04 wc v => Sys2Proof.Machine.execWrite04 wc v s
  | .write05 wc v => Sys2Proof.Machine.execWrite05 wc v s
  | .write06 wc v => Sys2Proof.Machine.execWrite06 wc v s
  | .write07 wc v => Sys2Proof.Machine.execWrite07 wc v s
  | .write08 wc v => Sys2Proof.Machine.execWrite08 wc v s
  | .write09 wc v => Sys2Proof.Machine.execWrite09 wc v s
  | .write0A wc v => Sys2Proof.Machine.execWrite0A wc v s
  | .write0B wc v => Sys2Proof.Machine.execWrite0B wc v s
  | .write0C wc v => Sys2Proof.Machine.execWrite0C wc v s
  | .write0D wc v => Sys2Proof.Machine.execWrite0D wc v s
  | .write0E wc v => Sys2Proof.Machine.execWrite0E wc v s
  | .write0F wc v => Sys2Proof.Machine.execWrite0F wc v s
  | .write10 wc v => Sys2Proof.Machine.execWrite10 wc v s
  | .write11 wc v => Sys2Proof.Machine.execWrite11 wc v s
  | .write12 wc v => Sys2Proof.Machine.execWrite12 wc v s
  | .write13 wc v => Sys2Proof.Machine.execWrite13 wc v s
  | .write14 wc v => Sys2Proof.Machine.execWrite14 wc v s
  | .write15 wc v => Sys2Proof.Machine.execWrite15 wc v s
  | .write16 wc v => Sys2Proof.Machine.execWrite16 wc v s
  | .write17 wc v => Sys2Proof.Machine.execWrite17 wc v s
  | .write18 wc v => Sys2Proof.Machine.execWrite18 wc v s
  | .write19 wc v => Sys2Proof.Machine.execWrite19 wc v s
  | .write1A wc v => Sys2Proof.Machine.execWrite1A wc v s
  | .write1B wc v => Sys2Proof.Machine.execWrite1B wc v s
  | .write1C wc v => Sys2Proof.Machine.execWrite1C wc v s
  | .write1D wc v => Sys2Proof.Machine.execWrite1D wc v s
  | .write1E wc v => Sys2Proof.Machine.execWrite1E wc v s
  | .write1F wc v => Sys2Proof.Machine.execWrite1F wc v s
  | .write20 wc v => Sys2Proof.Machine.execWrite20 wc v s
  | .write21 wc v => Sys2Proof.Machine.execWrite21 wc v s
  | .write22 wc v => Sys2Proof.Machine.execWrite22 wc v s
  | .write23 wc v => Sys2Proof.Machine.execWrite23 wc v s
  | .write24 wc v => Sys2Proof.Machine.execWrite24 wc v s
  | .write25 wc v => Sys2Proof.Machine.execWrite25 wc v s
  | .write26 wc v => Sys2Proof.Machine.execWrite26 wc v s
  | .write27 wc v => Sys2Proof.Machine.execWrite27 wc v s
  | .write28 wc v => Sys2Proof.Machine.execWrite28 wc v s
  | .write29 wc v => Sys2Proof.Machine.execWrite29 wc v s
  | .write2A wc v => Sys2Proof.Machine.execWrite2A wc v s
  | .write2B wc v => Sys2Proof.Machine.execWrite2B wc v s
  | .write2C wc v => Sys2Proof.Machine.execWrite2C wc v s
  | .write2D wc v => Sys2Proof.Machine.execWrite2D wc v s
  | .write2E wc v => Sys2Proof.Machine.execWrite2E wc v s
  | .write2F wc v => Sys2Proof.Machine.execWrite2F wc v s
  | .write30 wc v => Sys2Proof.Machine.execWrite30 wc v s
  | .write31 wc v => Sys2Proof.Machine.execWrite31 wc v s
  | .write32 wc v => Sys2Proof.Machine.execWrite32 wc v s
  | .write33 wc v => Sys2Proof.Machine.execWrite33 wc v s
  | .write34 wc v => Sys2Proof.Machine.execWrite34 wc v s
  | .write35 wc v => Sys2Proof.Machine.execWrite35 wc v s
  | .write36 wc v => Sys2Proof.Machine.execWrite36 wc v s
  | .write37 wc v => Sys2Proof.Machine.execWrite37 wc v s
  | .write38 wc v => Sys2Proof.Machine.execWrite38 wc v s
  | .write39 wc v => Sys2Proof.Machine.execWrite39 wc v s
  | .write3A wc v => Sys2Proof.Machine.execWrite3A wc v s
  | .write3B wc v => Sys2Proof.Machine.execWrite3B wc v s
  | .write3C wc v => Sys2Proof.Machine.execWrite3C wc v s
  | .write3D wc v => Sys2Proof.Machine.execWrite3D wc v s
  | .write3E wc v => Sys2Proof.Machine.execWrite3E wc v s
  | .write3F wc v => Sys2Proof.Machine.execWrite3F wc v s
  | .peek00 => Sys2Proof.Machine.execPeek00 s
  | .peek01 => Sys2Proof.Machine.execPeek01 s
  | .peek02 => Sys2Proof.Machine.execPeek02 s
  | .peek03 => Sys2Proof.Machine.execPeek03 s
  | .peek04 => Sys2Proof.Machine.execPeek04 s
  | .peek05 => Sys2Proof.Machine.execPeek05 s
  | .peek06 => Sys2Proof.Machine.execPeek06 s
  | .peek07 => Sys2Proof.Machine.execPeek07 s
  | .peek08 => Sys2Proof.Machine.execPeek08 s
  | .peek09 => Sys2Proof.Machine.execPeek09 s
  | .peek0A => Sys2Proof.Machine.execPeek0A s
  | .peek0B => Sys2Proof.Machine.execPeek0B s
  | .peek0C => Sys2Proof.Machine.execPeek0C s
  | .peek0D => Sys2Proof.Machine.execPeek0D s
  | .peek0E => Sys2Proof.Machine.execPeek0E s
  | .peek0F => Sys2Proof.Machine.execPeek0F s
  | .peek10 => Sys2Proof.Machine.execPeek10 s
  | .peek11 => Sys2Proof.Machine.execPeek11 s
  | .peek12 => Sys2Proof.Machine.execPeek12 s
  | .peek13 => Sys2Proof.Machine.execPeek13 s
  | .peek14 => Sys2Proof.Machine.execPeek14 s
  | .peek15 => Sys2Proof.Machine.execPeek15 s
  | .peek16 => Sys2Proof.Machine.execPeek16 s
  | .peek17 => Sys2Proof.Machine.execPeek17 s
  | .peek18 => Sys2Proof.Machine.execPeek18 s
  | .peek19 => Sys2Proof.Machine.execPeek19 s
  | .peek1A => Sys2Proof.Machine.execPeek1A s
  | .peek1B => Sys2Proof.Machine.execPeek1B s
  | .peek1C => Sys2Proof.Machine.execPeek1C s
  | .peek1D => Sys2Proof.Machine.execPeek1D s
  | .peek1E => Sys2Proof.Machine.execPeek1E s
  | .peek1F => Sys2Proof.Machine.execPeek1F s
  | .peek20 => Sys2Proof.Machine.execPeek20 s
  | .peek21 => Sys2Proof.Machine.execPeek21 s
  | .peek22 => Sys2Proof.Machine.execPeek22 s
  | .peek23 => Sys2Proof.Machine.execPeek23 s
  | .peek24 => Sys2Proof.Machine.execPeek24 s
  | .peek25 => Sys2Proof.Machine.execPeek25 s
  | .peek26 => Sys2Proof.Machine.execPeek26 s
  | .peek27 => Sys2Proof.Machine.execPeek27 s
  | .peek28 => Sys2Proof.Machine.execPeek28 s
  | .peek29 => Sys2Proof.Machine.execPeek29 s
  | .peek2A => Sys2Proof.Machine.execPeek2A s
  | .peek2B => Sys2Proof.Machine.execPeek2B s
  | .peek2C => Sys2Proof.Machine.execPeek2C s
  | .peek2D => Sys2Proof.Machine.execPeek2D s
  | .peek2E => Sys2Proof.Machine.execPeek2E s
  | .peek2F => Sys2Proof.Machine.execPeek2F s
  | .peek30 => Sys2Proof.Machine.execPeek30 s
  | .peek31 => Sys2Proof.Machine.execPeek31 s
  | .peek32 => Sys2Proof.Machine.execPeek32 s
  | .peek33 => Sys2Proof.Machine.execPeek33 s
  | .peek34 => Sys2Proof.Machine.execPeek34 s
  | .peek35 => Sys2Proof.Machine.execPeek35 s
  | .peek36 => Sys2Proof.Machine.execPeek36 s
  | .peek37 => Sys2Proof.Machine.execPeek37 s
  | .peek38 => Sys2Proof.Machine.execPeek38 s
  | .peek39 => Sys2Proof.Machine.execPeek39 s
  | .peek3A => Sys2Proof.Machine.execPeek3A s
  | .peek3B => Sys2Proof.Machine.execPeek3B s
  | .peek3C => Sys2Proof.Machine.execPeek3C s
  | .peek3D => Sys2Proof.Machine.execPeek3D s
  | .peek3E => Sys2Proof.Machine.execPeek3E s
  | .peek3F => Sys2Proof.Machine.execPeek3F s
  | .eventAdvance => Sys2Proof.Machine.execEventAdvance s
  | .eventHandlePendingAlarms => Sys2Proof.Machine.execEventHandlePendingAlarms s
  | .eventFetchAlarm => Sys2Proof.Machine.execEventFetchAlarm s
  | .eventDrawAlarm => Sys2Proof.Machine.execEventDrawAlarm s
  | .eventRasterIrqAlarm => Sys2Proof.Machine.execEventRasterIrqAlarm s
  | .eventClockOverflow => Sys2Proof.Machine.execEventClockOverflow s
  | .eventBadlineEval => Sys2Proof.Machine.execEventBadlineEval s
  | .eventFetchMatrix => Sys2Proof.Machine.execEventFetchMatrix s
  | .eventCheckSpriteDma => Sys2Proof.Machine.execEventCheckSpriteDma s
  | .eventFetchSprite => Sys2Proof.Machine.execEventFetchSprite s
  | .eventDrawLine => Sys2Proof.Machine.execEventDrawLine s
  | .eventReset => Sys2Proof.Machine.execEventReset s
  | .eventSnapshotWrite => Sys2Proof.Machine.execEventSnapshotWrite s
  | .eventSnapshotLoad => Sys2Proof.Machine.execEventSnapshotLoad s
  | .eventSetVbank => Sys2Proof.Machine.execEventSetVbank s
  | .eventSetRamBase => Sys2Proof.Machine.execEventSetRamBase s
  | .eventLightpenTrigger => Sys2Proof.Machine.execEventLightpenTrigger s
  | .eventVideoRamStore => Sys2Proof.Machine.execEventVideoRamStore s

end Sys2Proof.Machine
end

