-- ==== Sys2Proof/Machine/Step.lean ====
section
/-! DEFINITION. One step: take the next operation issued, decode its word, do it (logs 1, 7, 27). -/

namespace Sys2Proof.Machine

/-- Do the operation whose word has been decoded, on the state that has accepted it. -/
def runDecoded (d : Except DecodeError Instr) (s : State) : Host.Outcome State Fault Refusal :=
  match d with
  | .ok i => exec i s
  | .error e => .refused (.reservedWord e)

/-- An outcome with the read data as the bus shows it (30_encoding.md R65; log 7). -/
def presented (f : WordFields) (o : Host.Outcome State Fault Refusal) : Host.Outcome State Fault Refusal :=
  match o with
  | .next s => .next (s.present f)
  | .fault e => .fault e
  | .refused e => .refused e

/-- One step of the machine: the first operation of the inbox, or nothing while none is issued ("the block changes
state only through the operations", 00_scope.md R3). -/
def step (s : State) : Host.Outcome State Fault Refusal :=
  match s.inbox with
  | [] => .next s
  | r :: rest =>
    presented (splitWord (s.busWord r.word)) (runDecoded (decode (s.busWord r.word)) (s.accept r rest))

/-- The state in which the next step takes the operation of the word `w` (log 1). -/
def State.withFetchWord (s : State) (nbits w : Nat) : State :=
  { s with inbox := s.plainRequest (BitVec.ofNat 18 (w % 2 ^ nbits)) :: s.inbox }

end Sys2Proof.Machine
end

