-- ==== Sys2Proof/Safety.lean ====
section
/-! DEFINITION. The terms in which statements about the machine are written: the operations of one shape as lists, the
result of an operation that begins with the flush, and the conditions that every step keeps. -/

namespace Sys2Proof.Machine

/-! Operations of one shape. -/

/-- READ of an address that returns its stored byte, with the address (40_register_file.md R82, R116), piece 0. -/
def storedReads0 : List (Instr × RegAddr) :=
  [(.read00, 0x00), (.read01, 0x01), (.read02, 0x02), (.read03, 0x03), (.read04, 0x04), (.read05, 0x05),
   (.read06, 0x06), (.read07, 0x07), (.read08, 0x08), (.read09, 0x09), (.read0A, 0x0A), (.read0B, 0x0B),
   (.read0C, 0x0C), (.read0D, 0x0D), (.read0E, 0x0E), (.read0F, 0x0F)]

/-- READ of an address that returns its stored byte, with the address (40_register_file.md R82, R116), piece 1. -/
def storedReads1 : List (Instr × RegAddr) :=
  [(.read10, 0x10), (.read15, 0x15), (.read16, 0x16), (.read17, 0x17), (.read18, 0x18), (.read1A, 0x1A),
   (.read1B, 0x1B), (.read1C, 0x1C), (.read1D, 0x1D), (.read20, 0x20), (.read21, 0x21), (.read22, 0x22),
   (.read23, 0x23), (.read24, 0x24), (.read25, 0x25), (.read26, 0x26)]

/-- READ of an address that returns its stored byte, with the address (40_register_file.md R82, R116), piece 2. -/
def storedReads2 : List (Instr × RegAddr) :=
  [(.read27, 0x27), (.read28, 0x28), (.read29, 0x29), (.read2A, 0x2A), (.read2B, 0x2B), (.read2C, 0x2C),
   (.read2D, 0x2D), (.read2E, 0x2E), (.read2F, 0x2F), (.read30, 0x30), (.read31, 0x31), (.read32, 0x32),
   (.read33, 0x33), (.read34, 0x34), (.read35, 0x35), (.read36, 0x36)]

/-- READ of an address that returns its stored byte, with the address (40_register_file.md R82, R116), piece 3. -/
def storedReads3 : List (Instr × RegAddr) :=
  [(.read37, 0x37), (.read38, 0x38), (.read39, 0x39), (.read3A, 0x3A), (.read3B, 0x3B), (.read3C, 0x3C),
   (.read3D, 0x3D), (.read3E, 0x3E), (.read3F, 0x3F)]

/-- READ of an address that returns its stored byte, with the address (40_register_file.md R82, R116). -/
def storedReads : List (Instr × RegAddr) := storedReads0 ++ storedReads1 ++ storedReads2 ++ storedReads3

/-- READ and PEEK of one address (40_register_file.md R81), piece 0. -/
def readPeekPairs0 : List (Instr × Instr) :=
  [(.read00, .peek00), (.read01, .peek01), (.read02, .peek02), (.read03, .peek03), (.read04, .peek04), (.read05, .peek05),
   (.read06, .peek06), (.read07, .peek07), (.read08, .peek08), (.read09, .peek09), (.read0A, .peek0A), (.read0B, .peek0B),
   (.read0C, .peek0C), (.read0D, .peek0D), (.read0E, .peek0E), (.read0F, .peek0F)]

/-- READ and PEEK of one address (40_register_file.md R81), piece 1. -/
def readPeekPairs1 : List (Instr × Instr) :=
  [(.read10, .peek10), (.read11, .peek11), (.read12, .peek12), (.read13, .peek13), (.read14, .peek14), (.read15, .peek15),
   (.read16, .peek16), (.read17, .peek17), (.read18, .peek18), (.read19, .peek19), (.read1A, .peek1A), (.read1B, .peek1B),
   (.read1C, .peek1C), (.read1D, .peek1D), (.read1E, .peek1E), (.read1F, .peek1F)]

/-- READ and PEEK of one address (40_register_file.md R81), piece 2. -/
def readPeekPairs2 : List (Instr × Instr) :=
  [(.read20, .peek20), (.read21, .peek21), (.read22, .peek22), (.read23, .peek23), (.read24, .peek24), (.read25, .peek25),
   (.read26, .peek26), (.read27, .peek27), (.read28, .peek28), (.read29, .peek29), (.read2A, .peek2A), (.read2B, .peek2B),
   (.read2C, .peek2C), (.read2D, .peek2D), (.read2E, .peek2E), (.read2F, .peek2F)]

/-- READ and PEEK of one address (40_register_file.md R81), piece 3. -/
def readPeekPairs3 : List (Instr × Instr) :=
  [(.read30, .peek30), (.read31, .peek31), (.read32, .peek32), (.read33, .peek33), (.read34, .peek34), (.read35, .peek35),
   (.read36, .peek36), (.read37, .peek37), (.read38, .peek38), (.read39, .peek39), (.read3A, .peek3A), (.read3B, .peek3B),
   (.read3C, .peek3C), (.read3D, .peek3D), (.read3E, .peek3E), (.read3F, .peek3F)]

/-- READ and PEEK of one address (40_register_file.md R81). -/
def readPeekPairs : List (Instr × Instr) := readPeekPairs0 ++ readPeekPairs1 ++ readPeekPairs2 ++ readPeekPairs3

/-- WRITE that only stores its byte, with the address (40_register_file.md R84 to R86, R93, R104), piece 0. -/
def storedWrites0 (wc : BitVec 2) (v : Byte) : List (Instr × RegAddr) :=
  [(.write00 wc v, 0x00), (.write01 wc v, 0x01), (.write02 wc v, 0x02), (.write03 wc v, 0x03), (.write04 wc v, 0x04), (.write05 wc v, 0x05),
   (.write06 wc v, 0x06), (.write07 wc v, 0x07), (.write08 wc v, 0x08), (.write09 wc v, 0x09), (.write0A wc v, 0x0A), (.write0B wc v, 0x0B),
   (.write0C wc v, 0x0C), (.write0D wc v, 0x0D), (.write0E wc v, 0x0E), (.write0F wc v, 0x0F)]

/-- WRITE that only stores its byte, with the address (40_register_file.md R84 to R86, R93, R104), piece 1. -/
def storedWrites1 (wc : BitVec 2) (v : Byte) : List (Instr × RegAddr) :=
  [(.write10 wc v, 0x10), (.write15 wc v, 0x15), (.write1B wc v, 0x1B), (.write1C wc v, 0x1C), (.write1D wc v, 0x1D)]

/-- WRITE that only stores its byte, with the address (40_register_file.md R84 to R86, R93, R104). -/
def storedWrites (wc : BitVec 2) (v : Byte) : List (Instr × RegAddr) := storedWrites0 wc v ++ storedWrites1 wc v

/-- WRITE that stores nothing (40_register_file.md R92, R108, R110, R116), piece 0. -/
def ignoredWrites0 (wc : BitVec 2) (v : Byte) : List (Instr) :=
  [.write13 wc v, .write14 wc v, .write1E wc v, .write1F wc v, .write2F wc v, .write30 wc v,
   .write31 wc v, .write32 wc v, .write33 wc v, .write34 wc v, .write35 wc v, .write36 wc v,
   .write37 wc v, .write38 wc v, .write39 wc v, .write3A wc v]

/-- WRITE that stores nothing (40_register_file.md R92, R108, R110, R116), piece 1. -/
def ignoredWrites1 (wc : BitVec 2) (v : Byte) : List (Instr) :=
  [.write3B wc v, .write3C wc v, .write3D wc v, .write3E wc v, .write3F wc v]

/-- WRITE that stores nothing (40_register_file.md R92, R108, R110, R116). -/
def ignoredWrites (wc : BitVec 2) (v : Byte) : List (Instr) := ignoredWrites0 wc v ++ ignoredWrites1 wc v

/-- WRITE of a colour register, with its address and the target it queues (40_register_file.md R111). -/
def colourWrites (wc : BitVec 2) (v : Byte) : List (Instr × RegAddr × TargetValue) :=
  [(.write20 wc v, 0x20, .borderColor (v.extractLsb' 0 4)), (.write21 wc v, 0x21, .backgroundColor 0 (v.extractLsb' 0 4)), (.write22 wc v, 0x22, .backgroundColor 1 (v.extractLsb' 0 4)), (.write23 wc v, 0x23, .backgroundColor 2 (v.extractLsb' 0 4)), (.write24 wc v, 0x24, .backgroundColor 3 (v.extractLsb' 0 4)), (.write25 wc v, 0x25, .spriteMc 0 (v.extractLsb' 0 4)),
   (.write26 wc v, 0x26, .spriteMc 1 (v.extractLsb' 0 4)), (.write27 wc v, 0x27, .spriteColor 0 (v.extractLsb' 0 4)), (.write28 wc v, 0x28, .spriteColor 1 (v.extractLsb' 0 4)), (.write29 wc v, 0x29, .spriteColor 2 (v.extractLsb' 0 4)), (.write2A wc v, 0x2A, .spriteColor 3 (v.extractLsb' 0 4)), (.write2B wc v, 0x2B, .spriteColor 4 (v.extractLsb' 0 4)),
   (.write2C wc v, 0x2C, .spriteColor 5 (v.extractLsb' 0 4)), (.write2D wc v, 0x2D, .spriteColor 6 (v.extractLsb' 0 4)), (.write2E wc v, 0x2E, .spriteColor 7 (v.extractLsb' 0 4))]

/-! Results. -/

/-- The operation flushes with `wc` write cycles and then leaves `f` of the state the flush left (40_register_file.md
R80): whatever the flush serves, and in particular when no alarm is due, where it serves nothing. A fault of the flush
is the operation's. -/
def FlushedResult (wc : Nat) (i : Instr) (f : State → State) : Prop :=
  (∀ s s1, flush wc s = .ok s1 → exec i s = .next (f s1)) ∧
    (∀ s e, flush wc s = .error e → exec i s = .fault e) ∧
    ∀ s, s.quiet wc = true → exec i s = .next (f s)

/-- On the states that meet `p` when the flush has left them, the operation flushes and then ends as `f` says; in
particular when no alarm is due, where the flush serves nothing. -/
def FlushedWhen (p : State → Prop) (i : Instr) (f : State → Host.Outcome State Fault Refusal) : Prop :=
  (∀ s s1, flush 0 s = .ok s1 → p s1 → exec i s = f s1) ∧ ∀ s, s.quiet 0 = true → p s → exec i s = f s

/-- The operation `all` serves the alarm of the operation `one` first: it is over if nothing is due after that
(`done`), it goes on from there otherwise, and it ends in a fault if that alarm does. -/
def ServesFirst (all one : Instr) (done : State → Prop) (s : State) : Prop :=
  (∀ t, exec one s = .next t → done t → exec all s = .next t) ∧
    (∀ t u, exec one s = .next t → exec all s = .next u → exec all t = .next u) ∧
    ∀ e, exec one s = .fault e → exec all s = .fault e

/-- The changes that repoint the base pointers: each that differs from the value it has after the changes already queued
(40_register_file.md R129), in the order screen, character, bitmap, at the raster X of the clock. -/
def State.pointerChanges (s : State) (screen char bitmap : Addr) : List Change :=
  (if screen = s.renderEnd.screenBase then [] else [⟨s.triggerX s.clk, .screenBase screen⟩]) ++
    ((if char = s.renderEnd.charBase then [] else [⟨s.triggerX s.clk, .charBase char⟩]) ++
      (if bitmap = s.renderEnd.bitmapBase then [] else [⟨s.triggerX s.clk, .bitmapBase bitmap⟩]))

/-- Every alarm of the block is in the future, the disarmed one included: ADVANCE has nothing to serve. -/
abbrev State.allQuiet (s : State) : Prop :=
  s.clk < s.fetchClk ∧ s.clk < s.drawClk ∧ (s.rasterIrqClk = s.cfg.clockMax ∨ s.clk < s.rasterIrqClk)

/-! Conditions that every step keeps. -/

/-- The memories have their canonical form, and colour RAM has 1024 entries (10_state.md R21; log 10). -/
abbrev MemoriesOk (s : State) : Prop :=
  Memory.wf s.ram = true ∧ Memory.wf s.colorRam = true ∧ Memory.wf s.chargen = true ∧ Memory.wf s.romh = true ∧
    ∀ c ∈ s.colorRam, c.1 < 1024

/-- The ranges of 10_state.md R13, R19, R22, and bits 7:4 of `irq_status`, which are always 0 (60_exceptions.md R256). -/
abbrev RangesOk (s : State) : Prop :=
  s.irqStatus &&& 0xF0#8 = 0#8 ∧ s.currentLine.toNat < s.cfg.screenHeight ∧ s.memCounterInc.toNat ≤ textCols ∧
    bankWellFormed s.vbankPhi1 = true ∧ bankWellFormed s.vbankPhi2 = true

/-- While a sprite fetch list is in progress, its index lies in the list (43_fetch.md R184, R185). -/
abbrev FetchIndexOk (s : State) : Prop :=
  s.fetchIdx = .fetchSprite → s.spriteFetchIdx < (s.cfg.fetchList s.spriteFetchMsk).length

/-- The stored values that the registers determine: the interrupt request (60_exceptions.md R259), the video mode
(10_state.md R16), the compare value with its alarm off the screen (40_register_file.md R96), the border lines
(10_state.md R33). -/
abbrev DerivedOk (s : State) : Prop :=
  s.irqLine = irqRequest s.irqStatus (s.reg 0x1A) ∧
    s.videoMode = modeOfRegs (s.reg 0x11) (s.reg 0x16) ∧
    s.rasterIrqLine = compareLine (s.reg 0x11) (s.reg 0x12) ∧
    (s.cfg.screenHeight ≤ s.rasterIrqLine.toNat → s.rasterIrqClk = s.cfg.clockMax) ∧
    (s.borderTop, s.borderBottom) = s.cfg.rows ((s.reg 0x11).getLsbD 3)

/-- After every queued change each target has the value the registers and the resolver give it (44_renderer.md
R204). -/
abbrev TargetsOk (s : State) : Prop := s.renderEnd = s.renderFromRegs

/-- Every delivered line is a line of the standard, with eight pixels for each cycle (44_renderer.md R230). -/
abbrev DeliveriesOk (s : State) : Prop :=
  ∀ d ∈ s.lines, d.line.toNat < s.cfg.screenHeight ∧ d.pixels.length = 8 * s.cfg.cpl

/-- The state without what only the cache holds (44_renderer.md R208). -/
def State.eraseCache (s : State) : State := { s with cache := [], dirtyRange := none }

/-- An outcome without what only the cache holds. -/
def eraseOutcome (o : Host.Outcome State Fault Refusal) : Host.Outcome State Fault Refusal :=
  match o with
  | .next s => .next s.eraseCache
  | .fault e => .fault e
  | .refused e => .refused e

/-- The operands of the word are in the range their rule gives: FETCH_MATRIX (43_fetch.md R175), FETCH_SPRITE (R185),
CLOCK_OVERFLOW after its flush (41_scheduler.md R153). -/
def operandsInRange (i : Instr) (s : State) : Prop :=
  (i = .eventFetchMatrix →
    0 ≤ s.operands.offset ∧ 0 ≤ s.operands.count ∧ s.operands.offset + s.operands.count ≤ (textCols : Int)) ∧
  (i = .eventFetchSprite → s.spriteFetchIdx < (s.cfg.fetchList s.spriteFetchMsk).length) ∧
  (i = .eventClockOverflow → ∀ s1, flush 0 s = .ok s1 → s1.overflowBelowZero s.operands.sub = false)

end Sys2Proof.Machine
end

