-- ==== Sys2Proof/Certificates/Slice0/Obligations.lean ====
section
/-! DEFINITION. The statements for the provers, one definition each. Where a conclusion is an equation
`exec i s = .next t`, the state `t` is written out in full, so that it is also the instruction's frame: every register,
flag, alarm, output and byte of memory that `t` does not name is that of `s`. -/

open Sys2Proof Sys2Proof.Machine

/-! Encoding. -/

/-- Decode and encode agree: the word written for any operation, with every operand at every value, decodes to that
operation (30_encoding.md R60, R61, R63). -/
def Obligations.DecodeOfEncodeIsIdentity : Prop := ∀ i : Instr, decode (encode i) = .ok i

/-- Each accepted word has one meaning: a word that decodes to an operation is the word written for it. -/
def Obligations.EncodeOfDecodeIsIdentity : Prop := ∀ (w : BusWord) (i : Instr), decode w = .ok i → encode i = w

/-- 30_encoding.md R67: exactly the EVENT numbers 0x12..0x3F and the READ, PEEK and EVENT words with a non-zero `value`
or `wc` are refused, and a step on such a word performs no operation. -/
def Obligations.ReservedWordsAreRefused : Prop :=
  (∀ w : BusWord, (∃ e, decode w = .error e) ↔
    ((splitWord w).op ≠ 1 ∧ ((splitWord w).wc ≠ 0 ∨ (splitWord w).value ≠ 0)) ∨
      ((splitWord w).op = 3 ∧ 0x12 ≤ (splitWord w).addr.toNat)) ∧
    ∀ (s : State) (r : Request) (rest : List Request) (e : DecodeError),
      s.inbox = r :: rest → decode r.word = .error e → step s = .refused (.reservedWord e)

/-- The words of 95_test_vectors.md V52, written out there bit by bit, decode to what they stand for. -/
def Obligations.ListedWordsDecode : Prop :=
  decode 0x01900#18 = .ok .read19 ∧ decode 0x01E00#18 = .ok .read1E ∧
    decode 0x1111B#18 = .ok (.write11 0 0x1B) ∧ decode 0x11500#18 = .ok (.write15 0 0x00) ∧
    decode 0x159F1#18 = .ok (.write19 1 0xF1) ∧ decode 0x199E2#18 = .ok (.write19 2 0xE2) ∧
    decode 0x21E00#18 = .ok .peek1E ∧ decode 0x23F00#18 = .ok .peek3F ∧
    decode 0x30000#18 = .ok .eventAdvance ∧ decode 0x30B00#18 = .ok .eventReset ∧
    decode 0x30C00#18 = .ok .eventSnapshotWrite ∧ decode 0x31100#18 = .ok .eventVideoRamStore

/-- A step takes the first operation issued and runs exactly the decoded instruction, on the state in which the memory
providers have made their changes, the CPU core's clock has moved on, `stolen_cycles` is cleared if the core says so,
ULTIMAX is as driven and the operands stand beside the word (the model's choice, logs 1 and 10); with no operation issued
nothing changes. Under the default REGMAP the word decoded is the word issued and the read data is as the instruction
left it; under any other, a bus word goes to the register at its address, its bits at that register's places
(30_encoding.md R64, R65, log 7). -/
def Obligations.StepRunsTheDecodedInstruction : Prop :=
  (∀ (s : State) (r : Request) (rest : List Request) (i : Instr),
    s.inbox = r :: rest → decode (s.busWord r.word) = .ok i →
      step s = presented (splitWord (s.busWord r.word)) (exec i { s with
        inbox := rest
        clk := s.clk + r.cycles
        stolenCycles := if r.takeStolen then 0 else s.stolenCycles
        ultimax := r.ultimax
        operands := r.operands
        ram := r.memory.foldl MemoryChange.onRam s.ram
        chargen := r.memory.foldl MemoryChange.onChargen s.chargen
        romh := r.memory.foldl MemoryChange.onRomh s.romh
        memoryTime := s.memoryTime + 1 })) ∧
    (∀ s : State, s.inbox = [] → step s = .next s) ∧
    (∀ (s : State) (w : BusWord), s.cfg.regmap = Config.defaultRegmap → s.cfg.bitmap = Config.defaultBitmap →
      s.busWord w = w ∧ ∀ f, (f.op = 0 → s.lastRead = s.readData) → presented f (.next s) = .next s) ∧
    (∀ f e, presented f (.fault e) = .fault e) ∧
    ∀ (s : State) (w : BusWord), splitWord (s.busWord w) =
      if (splitWord w).op = 3 then splitWord w
      else { splitWord w with
        addr := s.cfg.registerAt (splitWord w).addr
        value := if (splitWord w).op = 1 then
            s.cfg.registerByte (s.cfg.registerAt (splitWord w).addr) (splitWord w).value
          else (splitWord w).value }

/-! READ and PEEK. -/

/-- 40_register_file.md R82: after the flush, READ of each address whose fields are all `rw` or unused returns
`regs[a] | ALWAYS1[a]`, sets `last_read` to it, and changes nothing else. -/
def Obligations.ReadReturnsStoredByte : Prop :=
  ∀ p ∈ storedReads, FlushedResult 0 p.1 fun s =>
    { s with readData := s.reg p.2 ||| s.cfg.always1At p.2, lastRead := s.reg p.2 ||| s.cfg.always1At p.2 }

/-- READ 11, 12, 13, 14 and 19 return the reconstructed values of 40_register_file.md R89, R91, R92, R101, OR-ed with
`ALWAYS1` (30_encoding.md R66; that the mask applies to these reads too is the model's reading, log 8), and change only
the read data and `last_read`. -/
def Obligations.ReadReturnsReconstructedValue : Prop :=
  let result (v : State → Byte) (s : State) : State := { s with readData := v s, lastRead := v s }
  FlushedResult 0 .read11 (result fun s =>
    (s.reg 0x11 &&& 0x7F#8) ||| (if 256 ≤ s.lineNow % 512 then 0x80#8 else 0#8) ||| s.cfg.always1At 0x11) ∧
  FlushedResult 0 .read12 (result fun s => BitVec.ofNat 8 s.lineNow ||| s.cfg.always1At 0x12) ∧
  FlushedResult 0 .read13 (result fun s => s.lightPen.x ||| s.cfg.always1At 0x13) ∧
  FlushedResult 0 .read14 (result fun s => s.lightPen.y ||| s.cfg.always1At 0x14) ∧
  FlushedResult 0 .read19 (result fun s =>
    (s.irqStatus &&& 0x0F#8) ||| (if s.irqLine then 0x80#8 else 0#8) ||| s.cfg.always1At 0x19)

/-- READ 1E and READ 1F return the accumulator and clear it, nothing else but the read data and `last_read`
(40_register_file.md R107, R109; OR-ed with `ALWAYS1`, 90_conflicts.md C8, log 8); a second READ 1E at once returns 0 where
`ALWAYS1[0x1E]` is 0, the default. -/
def Obligations.ReadClearsCollisions : Prop :=
  (FlushedResult 0 .read1E fun s =>
    { s with
      readData := s.spriteSpriteCollisions ||| s.cfg.always1At 0x1E
      lastRead := s.spriteSpriteCollisions ||| s.cfg.always1At 0x1E
      spriteSpriteCollisions := 0 }) ∧
    (FlushedResult 0 .read1F fun s =>
      { s with
        readData := s.spriteBackgroundCollisions ||| s.cfg.always1At 0x1F
        lastRead := s.spriteBackgroundCollisions ||| s.cfg.always1At 0x1F
        spriteBackgroundCollisions := 0 }) ∧
    ∀ s : State, s.quiet 0 = true → s.cfg.always1At 0x1E = 0 →
      ∃ t u, exec .read1E s = .next t ∧ exec .read1E t = .next u ∧
        t.readData = s.spriteSpriteCollisions ∧ u.readData = 0

/-- 40_register_file.md R81: PEEK of every address completes on every state, flushes nothing, changes only the read data,
and returns what READ of the address returns on the same state with the fetch and draw alarms put off until none is due;
in particular what READ returns on the state itself when none is. -/
def Obligations.PeekHasNoSideEffect : Prop :=
  ∀ p ∈ readPeekPairs, ∀ s : State,
    ∃ v, exec p.2 s = .next { s with readData := v } ∧
      (s.quiet 0 = true → ∃ t, exec p.1 s = .next t ∧ t.readData = v ∧ t.lastRead = v) ∧
      ∀ f d : Clock, ({ s with fetchClk := f, drawClk := d } : State).quiet 0 = true →
        ∃ t, exec p.1 { s with fetchClk := f, drawClk := d } = .next t ∧ t.readData = v ∧ t.lastRead = v

/-! WRITE. -/

/-- 40_register_file.md R84 to R86, R93, R104: after the flush, the write of a sprite position, of the sprite enable or
of a sprite attribute register stores the byte and does nothing else. -/
def Obligations.WriteStoresTheByte : Prop :=
  ∀ (wc : BitVec 2) (v : Byte), ∀ p ∈ storedWrites wc v,
    FlushedResult wc.toNat p.1 fun s => { s with regs := s.regs.set p.2.toNat v p.2.isLt }

/-- Writes of the light pen registers, the collision registers and the unused addresses flush and change nothing
(30_encoding.md R68, R69; 40_register_file.md R108, R110). -/
def Obligations.WriteToNoRegisterIsIgnored : Prop :=
  ∀ (wc : BitVec 2) (v : Byte), ∀ i ∈ ignoredWrites wc v, FlushedResult wc.toNat i fun s => s

/-- 40_register_file.md R111: a colour register stores the byte, and queues a change at the raster X of the write
exactly when the low nibble changes. -/
def Obligations.WriteColourQueuesChange : Prop :=
  ∀ (wc : BitVec 2) (v : Byte), ∀ p ∈ colourWrites wc v,
    FlushedResult wc.toNat p.1 fun s =>
      { s with
        regs := s.regs.set p.2.1.toNat v p.2.1.isLt
        changes := s.changes ++
          if v.extractLsb' 0 4 = (s.reg p.2.1).extractLsb' 0 4 then []
          else [{ triggerX := s.triggerX s.clk, assign := p.2.2 }] }

/-- 40_register_file.md R94: WRITE 16 stores the byte, recomputes the video mode (10_state.md R16) and queues the X
scroll, the mode and the column bit, in that order, each if its bits change. -/
def Obligations.WriteControlRegister2 : Prop :=
  ∀ (wc : BitVec 2) (v : Byte), FlushedResult wc.toNat (.write16 wc v) fun s =>
    { s with
      regs := s.regs.set 0x16 v
      videoMode := modeOfRegs (s.reg 0x11) v
      changes := s.changes ++
        ((if v.extractLsb' 0 3 = (s.reg 0x16).extractLsb' 0 3 then []
          else [⟨s.triggerX s.clk, .xsmooth (v.extractLsb' 0 3)⟩]) ++
        ((if v.getLsbD 4 = (s.reg 0x16).getLsbD 4 then []
          else [⟨s.triggerX s.clk, .videoMode (modeOfRegs (s.reg 0x11) v)⟩]) ++
        (if v.getLsbD 3 = (s.reg 0x16).getLsbD 3 then []
          else [⟨s.triggerX s.clk, .columnMode (v.getLsbD 3)⟩]))) }

/-- 40_register_file.md R97: WRITE 17 stores the byte; each sprite whose bit is cleared while its flip-flop is 0 takes
the flip-flop 1 and, if its DMA is active, the crunch increment; every other sprite, and everything else, is unchanged. -/
def Obligations.WriteExpansionCrunches : Prop :=
  ∀ (wc : BitVec 2) (v : Byte),
    FlushedResult wc.toNat (.write17 wc v) fun s =>
      { s with
        regs := s.regs.set 0x17 v
        sprites := Vector.ofFn fun i : SpriteNo =>
          if v.getLsbD i.val = false ∧ s.sprites[i].expFlag = false then
            { s.sprites[i] with
              expFlag := true
              memptrInc := if s.newSpriteDmaMask.getLsbD i.val then s.cfg.crunchAt s.sprites[i].memptr
                else s.sprites[i].memptrInc }
          else s.sprites[i] }

/-- 40_register_file.md R98, R129: WRITE 18 stores the byte and queues each of the three base pointers that differs from
the value it has after the changes already queued, in the order screen, character, bitmap. -/
def Obligations.WriteMemoryPointers : Prop :=
  ∀ (wc : BitVec 2) (v : Byte), FlushedResult wc.toNat (.write18 wc v) fun s =>
    let screen := s.vbankPhi1 ||| ((v &&& 0xF0#8).setWidth 16 <<< 6)
    let char := s.vbankPhi1 ||| ((v &&& 0x0E#8).setWidth 16 <<< 10)
    let bitmap := s.vbankPhi1 ||| ((v &&& 0x08#8).setWidth 16 <<< 10)
    { s with
      regs := s.regs.set 0x18 v
      changes := s.changes ++
        ((if screen = s.renderEnd.screenBase then [] else [⟨s.triggerX s.clk, .screenBase screen⟩]) ++
        ((if char = s.renderEnd.charBase then [] else [⟨s.triggerX s.clk, .charBase char⟩]) ++
        (if bitmap = s.renderEnd.bitmapBase then [] else [⟨s.triggerX s.clk, .bitmapBase bitmap⟩]))) }

/-- 40_register_file.md R90, R96: WRITE 12 stores the byte and sets the compare line; a line that does not exist
disarms the raster alarm with a warning, any other arms it for the line's next start, and raises `IRST` at once when the
new compare value equals the line in progress and the old one differed. -/
def Obligations.WriteRasterComparesLine : Prop :=
  ∀ (wc : BitVec 2) (v : Byte), FlushedResult wc.toNat (.write12 wc v) fun s =>
    let line : BitVec 16 := (if (s.reg 0x11).getLsbD 7 then 0x100#16 else 0#16) ||| v.setWidth 16
    let start := s.clkOrigin + BitVec.ofNat 32 (line.toNat * s.cfg.cpl)
    let stored := { s with regs := s.regs.set 0x12 v, rasterIrqLine := line }
    if s.cfg.screenHeight ≤ line.toNat then
      { stored with rasterIrqClk := s.cfg.clockMax, log := s.log ++ [.rasterCompareOutOfRange line] }
    else
      let armed := { stored with
        rasterIrqClk := if start ≤ s.clk then start + BitVec.ofNat 32 s.cfg.frame else start }
      if line ≠ s.rasterIrqLine ∧ line.toNat = s.lineNow then
        { armed with
          irqStatus := s.irqStatus ||| 0x01#8
          irqLine := irqRequest (s.irqStatus ||| 0x01#8) (s.reg 0x1A) }
      else armed

/-- 40_register_file.md R80, R88: WRITE 11 flushes and then, on the state the flush left, completes whatever the byte,
line and cycle; it stores the byte, updates the raster compare, the blanking, the border lines and the video mode, queues
the mode change if bits 6:5 change, and is exactly BADLINE_EVAL with the old and new byte and the line and cycle after the
flush. A fault of the flush is the operation's; with no alarm due the flush serves nothing. -/
def Obligations.WriteControlRegister1 : Prop :=
  ∀ (wc : BitVec 2) (v : Byte),
    let result := fun s t : State =>
      badlineEval (s.reg 0x11) v s.lineNow s.cycleNow
        { updateRasterCompare { s with regs := s.regs.set 0x11 v } with
          blank := !v.getLsbD 4
          borderTop := (s.cfg.rows (v.getLsbD 3)).1
          borderBottom := (s.cfg.rows (v.getLsbD 3)).2
          videoMode := modeOfRegs v (s.reg 0x16)
          changes := s.changes ++
            if v.extractLsb' 5 2 = (s.reg 0x11).extractLsb' 5 2 then []
            else [⟨s.triggerX s.clk, .videoMode (modeOfRegs v (s.reg 0x16))⟩] } = .ok t ∧
      t.regs = s.regs.set 0x11 v ∧ t.allowBadLines = v.getLsbD 4 ∧ t.blank = !v.getLsbD 4 ∧
      t.rasterIrqLine = compareLine v (s.reg 0x12) ∧ t.lastRead = s.lastRead ∧
      (∀ a, t.ramByte a = s.ramByte a) ∧ ∀ a, t.colorByte a = s.colorByte a
    (∀ s s1 : State, flush wc.toNat s = .ok s1 → ∃ t, exec (.write11 wc v) s = .next t ∧ result s1 t) ∧
      (∀ (s : State) (e : Fault), flush wc.toNat s = .error e → exec (.write11 wc v) s = .fault e) ∧
      ∀ s : State, s.quiet wc.toNat = true → ∃ t, exec (.write11 wc v) s = .next t ∧ result s t

/-- 40_register_file.md R100: WRITE 19 clears the pending bits that the last read returned, whatever byte is written,
updates the request, and stores nothing. -/
def Obligations.WriteAcknowledgesLastRead : Prop :=
  ∀ (wc : BitVec 2) (v : Byte), FlushedResult wc.toNat (.write19 wc v) fun s =>
    { s with
      irqStatus := s.irqStatus &&& ~~~(s.lastRead &&& 0x0F#8)
      irqLine := irqRequest (s.irqStatus &&& ~~~(s.lastRead &&& 0x0F#8)) (s.reg 0x1A) }

/-- 40_register_file.md R102: WRITE 1A stores the mask and updates the request at once. -/
def Obligations.WriteMaskUpdatesRequest : Prop :=
  ∀ (wc : BitVec 2) (v : Byte), FlushedResult wc.toNat (.write1A wc v) fun s =>
    { s with regs := s.regs.set 0x1A v, irqLine := irqRequest s.irqStatus v }

/-! The flush, ADVANCE and the alarms. -/

/-- 41_scheduler.md R145: with no fetch or draw alarm due at the rolled-back time the flush changes nothing, and two
flushes in a row equal one, because the first leaves no such alarm due. -/
def Obligations.FlushIsIdempotent : Prop :=
  ∀ (wc : Nat) (s : State),
    (s.quiet wc = true → flush wc s = .ok s) ∧
      ∀ s1, flush wc s = .ok s1 → s1.quiet wc = true ∧ flush wc s1 = .ok s1

/-- The flush serves the fetch and draw alarms only: it never touches the registers, the raster alarm and its compare
line, what the CPU last read, the bank selectors, the border lines, the video mode, the log or any byte of memory
(41_scheduler.md R144, R146, R147). -/
def Obligations.FlushLeavesTheRegisterFile : Prop :=
  ∀ (wc : Nat) (s t : State), flush wc s = .ok t →
    t.cfg = s.cfg ∧ t.regs = s.regs ∧ t.rasterIrqClk = s.rasterIrqClk ∧ t.rasterIrqLine = s.rasterIrqLine ∧
      t.lastRead = s.lastRead ∧ t.readData = s.readData ∧ t.vbankPhi1 = s.vbankPhi1 ∧ t.vbankPhi2 = s.vbankPhi2 ∧
      t.ramBaseOffset = s.ramBaseOffset ∧ t.blank = s.blank ∧ t.borderTop = s.borderTop ∧
      t.borderBottom = s.borderBottom ∧ t.videoMode = s.videoMode ∧ t.log = s.log ∧ t.snapshotOut = s.snapshotOut ∧
      t.ultimax = s.ultimax ∧ t.inbox = s.inbox ∧ t.operands = s.operands ∧ t.draws = s.draws ∧
      (∀ a, t.ramByte a = s.ramByte a) ∧ (∀ a, t.colorByte a = s.colorByte a) ∧
      (∀ a, t.chargenByte a = s.chargenByte a) ∧ ∀ a, t.romhByte a = s.romhByte a

/-- 41_scheduler.md R142: ADVANCE ends with every alarm in the future or, the earliest of the three clocks reading
CLOCK_MAX, with none armed; and with no alarm due it changes nothing. -/
def Obligations.AdvanceServesEveryDueAlarm : Prop :=
  (∀ s t : State, exec .eventAdvance s = .next t →
    t.clk < t.fetchClk ∧ t.clk < t.drawClk ∧ t.clk < t.rasterIrqClk ∨
      min t.fetchClk.toNat (min t.drawClk.toNat t.rasterIrqClk.toNat) = t.cfg.clockMax.toNat) ∧
    ∀ s : State, s.allQuiet → exec .eventAdvance s = .next s

/-- The order of service (41_scheduler.md R142 to R144): ADVANCE serves the earliest due alarm first, at equal times the
fetch alarm, then the draw alarm, then the raster alarm; the flush serves the fetch alarm that is due at the rolled-back
time and not later than the draw alarm, else a draw alarm that is due, and never the raster alarm. Either is over when
that leaves nothing due and goes on from there otherwise. Written out for one raster alarm (R151) and for one draw
alarm. -/
def Obligations.OneDueAlarmIsServedOnce : Prop :=
  (∀ s : State, s.fetchClk ≤ s.clk → s.fetchClk ≠ s.cfg.clockMax → s.fetchClk ≤ s.drawClk →
    s.fetchClk ≤ s.rasterIrqClk → ServesFirst .eventAdvance .eventFetchAlarm State.allQuiet s) ∧
  (∀ s : State, s.drawClk ≤ s.clk → s.drawClk ≠ s.cfg.clockMax → s.drawClk < s.fetchClk →
    s.drawClk ≤ s.rasterIrqClk → ServesFirst .eventAdvance .eventDrawAlarm State.allQuiet s) ∧
  (∀ s : State, s.rasterIrqClk ≤ s.clk → s.rasterIrqClk ≠ s.cfg.clockMax → s.rasterIrqClk < s.fetchClk →
    s.rasterIrqClk < s.drawClk → ServesFirst .eventAdvance .eventRasterIrqAlarm State.allQuiet s) ∧
  (∀ s : State, s.dueAt s.operands.writeCycles.toNat s.fetchClk = true → s.fetchClk ≤ s.drawClk →
    ServesFirst .eventHandlePendingAlarms .eventFetchAlarm (fun t => t.quiet s.operands.writeCycles.toNat = true) s) ∧
  (∀ s : State, s.dueAt s.operands.writeCycles.toNat s.drawClk = true → s.drawClk < s.fetchClk →
    ServesFirst .eventHandlePendingAlarms .eventDrawAlarm (fun t => t.quiet s.operands.writeCycles.toNat = true) s) ∧
  (∀ s : State, s.clk < s.fetchClk → s.clk < s.drawClk → s.rasterIrqClk ≤ s.clk → s.rasterIrqClk ≠ s.cfg.clockMax →
    s.clk < s.rasterIrqClk + BitVec.ofNat 32 s.cfg.frame →
    exec .eventAdvance s = .next { s with
      irqStatus := s.irqStatus ||| 0x01#8
      irqLine := irqRequest (s.irqStatus ||| 0x01#8) (s.reg 0x1A)
      rasterIrqClk := s.rasterIrqClk + BitVec.ofNat 32 s.cfg.frame }) ∧
    ∀ s : State, s.dueAt s.operands.writeCycles.toNat s.drawClk = true →
      s.dueAt s.operands.writeCycles.toNat s.fetchClk = false →
      s.dueAt s.operands.writeCycles.toNat (s.drawClk + BitVec.ofNat 32 s.cfg.cpl) = false →
      ∃ t, exec .eventDrawAlarm s = .next t ∧ exec .eventHandlePendingAlarms s = .next t ∧
        t.rasterIrqClk = s.rasterIrqClk

/-- FETCH_ALARM in state FETCH_MATRIX on a line that is not bad: the matrix counter is reloaded, the flags are evaluated,
the alarm is rearmed for the sprite check, no byte is fetched and no cycle stolen (41_scheduler.md R146, 42_badline.md
R169). -/
def Obligations.FetchAlarmOnAGoodLine : Prop :=
  ∀ s : State, s.fetchIdx = .fetchMatrix →
    badLineCondition s.cfg.toConfig (s.reg 0x11) (s.rasterY s.fetchClk.toNat) = false →
    exec .eventFetchAlarm s = .next { s with
      allowBadLines := (s.reg 0x11).getLsbD 4
      memCounter := s.memptr
      badLine := false
      fetchIdx := .checkSpriteDma
      fetchClk := s.lineStartOf s.fetchClk + BitVec.ofNat 32 s.cfg.checkSpriteDmaCycle }

/-- 42_badline.md R169: FETCH_ALARM in state FETCH_MATRIX on a bad line fetches the 40 columns from the matrix base on,
clears the row counter, leaves idle state and steals `TEXTCOLS + BA_LEAD` cycles. -/
def Obligations.FetchAlarmOnABadLine : Prop :=
  ∀ s : State, s.fetchIdx = .fetchMatrix →
    badLineCondition s.cfg.toConfig (s.reg 0x11) (s.rasterY s.fetchClk.toNat) = true →
    exec .eventFetchAlarm s = .next { s with
      allowBadLines := (s.reg 0x11).getLsbD 4
      memCounter := s.memptr
      badLine := true
      vbuf := Vector.ofFn fun c : Fin 40 => s.matrixByte (s.memptr + BitVec.ofNat 10 c.val)
      cbuf := Vector.ofFn fun c : Fin 40 => s.colorByte (s.memptr + BitVec.ofNat 10 c.val)
      backgroundColorSource := s.matrixByte (s.memptr + 39#10)
      memCounterInc := 40#8
      ycounter := 0
      idleState := false
      clk := s.clk + BitVec.ofNat 32 (textCols + s.cfg.baLead)
      stolenCycles := s.stolenCycles + (textCols + s.cfg.baLead)
      fetchIdx := .checkSpriteDma
      fetchClk := s.lineStartOf s.fetchClk + BitVec.ofNat 32 s.cfg.checkSpriteDmaCycle }

/-- FETCH_ALARM in state CHECK_SPRITE_DMA: the check, then either the first tuple of the list of the mask is armed or,
with no sprite active, the matrix fetch of the next line; no cycle is stolen either way (41_scheduler.md R146,
43_fetch.md R180, R184, R190). -/
def Obligations.FetchAlarmChecksSprites : Prop :=
  ∀ s : State, s.fetchIdx = .checkSpriteDma →
    ∃ t, exec .eventCheckSpriteDma s = .next t ∧
      let line := s.lineStartOf s.fetchClk
      let base := line + BitVec.ofNat 32 s.cfg.spriteFetchCycle
      (t.newSpriteDmaMask = 0 →
        exec .eventFetchAlarm s = .next { t with
          fetchIdx := .fetchMatrix
          fetchClk := line + BitVec.ofNat 32 (s.cfg.cpl + s.cfg.fetchCycle) }) ∧
      (t.newSpriteDmaMask ≠ 0 →
        ∃ tuple rest, s.cfg.fetchList t.newSpriteDmaMask = tuple :: rest ∧
          exec .eventFetchAlarm s = .next { t with
            spriteFetchMsk := t.newSpriteDmaMask
            spriteFetchIdx := 0
            spriteFetchBase := base
            fetchIdx := .fetchSprite
            fetchClk := base + BitVec.ofInt 32 tuple.cycle })

/-- 43_fetch.md R185, R187: FETCH_SPRITE of a tuple of the list, alone or as the fetch alarm, fetches, for each sprite of
the tuple that is in the mask, the pointer from the top 8 bytes of the video matrix and the three data bytes from the
pointer's block, wrapping in it modulo 64, the first in bits 23:16; it steals the tuple's cycles and arms the next tuple,
or the matrix fetch of the next line after the last; with an index outside the list it is an AssertFail. -/
def Obligations.FetchSpriteServesOneTuple : Prop :=
  (∀ (s : State) (tup : FetchTuple), (s.cfg.fetchList s.spriteFetchMsk)[s.spriteFetchIdx]? = some tup →
    let checkLine := s.spriteFetchBase - BitVec.ofNat 32 s.cfg.spriteFetchCycle
    let pointer := fun i : SpriteNo => s.phi1Read (s.screenAddr + BitVec.ofNat 16 (0x3F8 + i.val))
    let byte := fun (i : SpriteNo) (k : Nat) =>
      s.phi1Read (s.vbankPhi1 ||| BitVec.ofNat 16 ((pointer i).toNat * 64 + (s.sprites[i].memptr.toNat + k) % 64))
    let word := fun i : SpriteNo => (byte i 0 ++ byte i 1 ++ byte i 2 : BitVec 24)
    ∃ t, exec .eventFetchSprite s = .next t ∧
      (s.fetchIdx = .fetchSprite → exec .eventFetchAlarm s = .next t) ∧
      t = { s with
        sprites := t.sprites
        fetchIdx := t.fetchIdx
        fetchClk := t.fetchClk
        spriteFetchIdx := s.spriteFetchIdx + 1
        clk := s.clk + BitVec.ofNat 32 tup.num
        stolenCycles := s.stolenCycles + tup.num } ∧
      (∀ i : SpriteNo, tup.first ≤ i → i ≤ tup.last → s.spriteFetchMsk.getLsbD i.val = true →
        t.sprites[i] = { s.sprites[i] with
          pointer := pointer i
          dataNext := word i
          data := if checkLine + BitVec.ofNat 32 (s.cfg.cpl + s.cfg.drawCycle) < s.fetchClk then word i
            else s.sprites[i].data }) ∧
      (∀ i : SpriteNo, ¬(tup.first ≤ i ∧ i ≤ tup.last ∧ s.spriteFetchMsk.getLsbD i.val = true) →
        t.sprites[i] = s.sprites[i]) ∧
      (∀ n, (s.cfg.fetchList s.spriteFetchMsk)[s.spriteFetchIdx + 1]? = some n →
        t.fetchIdx = s.fetchIdx ∧ t.fetchClk = s.spriteFetchBase + BitVec.ofInt 32 n.cycle) ∧
      ((s.cfg.fetchList s.spriteFetchMsk)[s.spriteFetchIdx + 1]? = none →
        t.fetchIdx = .fetchMatrix ∧ t.fetchClk = checkLine + BitVec.ofNat 32 (s.cfg.cpl + s.cfg.fetchCycle))) ∧
    ∀ s : State, (s.cfg.fetchList s.spriteFetchMsk).length ≤ s.spriteFetchIdx →
      exec .eventFetchSprite s = .fault (.assertFail .fetchSpriteIndex)

/-- DRAW_ALARM completes on every state; the line is drawn and delivered as DRAW_LINE does on the same state, which also
drains the queue into the line-start values; then the next line is begun, the fetched sprite bytes are taken over, the bad-line
flag is cleared, the alarm is rearmed one line later, at the frame wrap the origin moves on by a frame and the light pen
is rearmed; the registers, the buffers, the fetch alarm, `last_read`, the banking and the memories are unchanged
(41_scheduler.md R147, R150). -/
def Obligations.DrawAlarmBeginsTheNextLine : Prop :=
  ∀ s : State, ∃ d t, exec .eventDrawLine s = .next d ∧ exec .eventDrawAlarm s = .next t ∧
    t.lines = d.lines ∧ t.changes = d.changes ∧ t.lineStart = d.lineStart ∧ t.verticalBorder = d.verticalBorder ∧
    t.idleData = d.idleData ∧ t.lineCollisions = d.lineCollisions ∧ t.cache = d.cache ∧ t.dirtyRange = d.dirtyRange ∧
    t.currentLine.toNat = (s.currentLine.toNat + 1) % s.cfg.screenHeight ∧
    t.drawClk = s.drawClk + BitVec.ofNat 32 s.cfg.cpl ∧ t.badLine = false ∧
    t.spriteDmaMask = s.newSpriteDmaMask ∧
    (∀ i : SpriteNo, t.sprites[i] = { s.sprites[i] with data := s.sprites[i].dataNext }) ∧
    t.clkOrigin = (if t.currentLine = 0 then s.clkOrigin + BitVec.ofNat 32 s.cfg.frame else s.clkOrigin) ∧
    t.lightPen = { s.lightPen with triggered := if t.currentLine = 0 then false else s.lightPen.triggered } ∧
    t = { s with
      currentLine := t.currentLine, drawClk := t.drawClk, badLine := t.badLine, spriteDmaMask := t.spriteDmaMask
      sprites := t.sprites, clkOrigin := t.clkOrigin, lightPen := t.lightPen, memptr := t.memptr
      memCounter := t.memCounter, memCounterInc := t.memCounterInc, idleState := t.idleState, ycounter := t.ycounter
      forceDisplayState := t.forceDisplayState, verticalBorder := t.verticalBorder, idleData := t.idleData
      lines := t.lines, lineStart := t.lineStart, changes := t.changes, lineCollisions := t.lineCollisions
      cache := t.cache, dirtyRange := t.dirtyRange, spriteSpriteCollisions := t.spriteSpriteCollisions
      spriteBackgroundCollisions := t.spriteBackgroundCollisions, irqStatus := t.irqStatus, irqLine := t.irqLine }

/-- 41_scheduler.md R148, R149: the counters after DRAW_ALARM. The matrix counter, from 0 at the frame wrap (R150),
advances by the increment unless the chip was idle; a row counter of 7 latches the matrix base and enters idle state;
display state or a bad line advances the row counter and ends idle state, and so does the forced exit. -/
def Obligations.DrawAlarmCountsRows : Prop :=
  ∀ s : State, ∃ t, exec .eventDrawAlarm s = .next t ∧
    let counter := if t.currentLine = 0 then 0 else s.memCounter
    let base := if t.currentLine = 0 then 0 else s.memptr
    let advanced := if s.idleState then counter else counter + s.memCounterInc.setWidth 10
    let idle := s.idleState || s.ycounter == 7#3
    let counts := !idle || s.badLine
    t.memCounter = advanced ∧ t.memCounterInc = 40#8 ∧
      t.memptr = (if s.ycounter = 7#3 then advanced else base) ∧
      t.ycounter = (if counts then s.ycounter + 1 else s.ycounter) ∧
      t.idleState = (idle && !counts && !s.forceDisplayState) ∧ t.forceDisplayState = false

/-- 60_exceptions.md R260, R261: DRAW_ALARM ORs the collision bits of the line into the accumulators, and an accumulator
that goes from zero to non-zero, and only that, sets its status bit; the request follows. -/
def Obligations.DrawAlarmRaisesCollisionInterrupts : Prop :=
  ∀ s : State, DerivedOk s → ∃ d t, exec .eventDrawLine s = .next d ∧ exec .eventDrawAlarm s = .next t ∧
    t.spriteSpriteCollisions = s.spriteSpriteCollisions ||| d.lineCollisions.1 ∧
    t.spriteBackgroundCollisions = s.spriteBackgroundCollisions ||| d.lineCollisions.2 ∧
    t.irqStatus = s.irqStatus |||
      ((if s.spriteSpriteCollisions = 0 ∧ d.lineCollisions.1 ≠ 0 then 0x04#8 else 0) |||
        (if s.spriteBackgroundCollisions = 0 ∧ d.lineCollisions.2 ≠ 0 then 0x02#8 else 0)) ∧
    t.irqLine = irqRequest t.irqStatus (s.reg 0x1A)

/-- 41_scheduler.md R151: RASTER_IRQ_ALARM sets the raster bit whatever the mask says, updates the request and rearms for
the next frame; disarmed, it does nothing (the model's reading of an event issued then, log 16). -/
def Obligations.RasterAlarmRaisesInterrupt : Prop :=
  (∀ s : State, s.rasterIrqClk ≠ s.cfg.clockMax →
    exec .eventRasterIrqAlarm s = .next { s with
      irqStatus := s.irqStatus ||| 0x01#8
      irqLine := irqRequest (s.irqStatus ||| 0x01#8) (s.reg 0x1A)
      rasterIrqClk := s.rasterIrqClk + BitVec.ofNat 32 s.cfg.frame }) ∧
    ∀ s : State, s.rasterIrqClk = s.cfg.clockMax → exec .eventRasterIrqAlarm s = .next s

/-- CLOCK_OVERFLOW after its flush moves the origin, the sprite fetch base, the CPU clock and every armed alarm back by the
same amount and leaves a disarmed alarm; the raster position stays. It is an AssertFail exactly if the origin, an armed
alarm or the base of a list in progress lies before the amount (41_scheduler.md R153; the last two clauses are the model's
reading of "any adjusted field", log 21). -/
def Obligations.ClockOverflowMovesEveryClock : Prop :=
  let negative := fun s : State =>
    let before := fun f : Clock => f ≠ s.cfg.clockMax ∧ f < s.operands.sub
    s.clkOrigin < s.operands.sub ∨ before s.fetchClk ∨ before s.drawClk ∨ before s.rasterIrqClk ∨
      (s.fetchIdx = .fetchSprite ∧ s.spriteFetchBase < s.operands.sub)
  let moved := fun s : State => { s with
    clk := s.clk - s.operands.sub
    clkOrigin := s.clkOrigin - s.operands.sub
    fetchClk := if s.fetchClk = s.cfg.clockMax then s.cfg.clockMax else s.fetchClk - s.operands.sub
    drawClk := if s.drawClk = s.cfg.clockMax then s.cfg.clockMax else s.drawClk - s.operands.sub
    rasterIrqClk := if s.rasterIrqClk = s.cfg.clockMax then s.cfg.clockMax else s.rasterIrqClk - s.operands.sub
    spriteFetchBase := s.spriteFetchBase - s.operands.sub }
  FlushedWhen (fun s => ¬negative s) .eventClockOverflow (fun s => .next (moved s)) ∧
    FlushedWhen negative .eventClockOverflow (fun _ => .fault (.assertFail .clockOverflowBelowZero)) ∧
    (∀ s e, flush 0 s = .error e → exec .eventClockOverflow s = .fault e) ∧
    ∀ s : State, ¬negative s → s.clkOrigin ≤ s.clk →
      (moved s).cycleNow = s.cycleNow ∧ (moved s).lineNow = s.lineNow

/-! The bad-line evaluator. -/

/-- 42_badline.md R160: the condition for every register value and line; each evaluation, by BADLINE_EVAL and by the
fetch alarm, sets `allow_bad_lines` to the display-enable bit. -/
def Obligations.BadLineConditionIsTheRule : Prop :=
  (∀ (c : Config) (cr : Byte) (y : Nat), badLineCondition c cr y = true ↔
    cr.getLsbD 4 = true ∧ (cr.extractLsb' 0 3).toNat = y % 8 ∧ c.firstDmaLine ≤ y ∧ y ≤ c.lastDmaLine) ∧
  (∀ s t : State, exec .eventBadlineEval s = .next t → t.allowBadLines = s.operands.newCr.getLsbD 4) ∧
  ∀ s t : State, s.fetchIdx = .fetchMatrix → exec .eventFetchAlarm s = .next t →
    t.allowBadLines = (s.reg 0x11).getLsbD 4

/-- BADLINE_EVAL without a transition, and with one outside the fetch window: the flags of 42_badline.md R161, R163, R167
and R168, no fetch and no steal. -/
def Obligations.BadlineEvalOutsideTheWindow : Prop :=
  ∀ s : State,
    let old := badLineCondition s.cfg.toConfig s.operands.oldCr s.operands.line
    let new := badLineCondition s.cfg.toConfig s.operands.newCr s.operands.line
    let den := s.operands.newCr.getLsbD 4
    let c := s.operands.cycle
    (old = new → exec .eventBadlineEval s = .next { s with allowBadLines := den }) ∧
    (old = false → new = true → c < s.cfg.fetchCycle →
      exec .eventBadlineEval s = .next { s with allowBadLines := den, badLine := true }) ∧
    (old = false → new = true → s.cfg.fetchCycle + s.cfg.baLead + textCols ≤ c →
      exec .eventBadlineEval s = .next { s with
        allowBadLines := den
        badLine := true
        memCounterInc := if s.idleState then 0 else s.memCounterInc
        forceDisplayState := true }) ∧
    (old = true → new = false →
      exec .eventBadlineEval s = .next { s with
        allowBadLines := den
        badLine := if c < s.cfg.fetchCycle then false else s.badLine
        forceDisplayState := if 0 < c then true else s.forceDisplayState })

/-- 42_badline.md R164, R166: a line that becomes bad at cycle `c` of the fetch window steals the cycles left of the
window and fills `num` columns from `pos` on, the first `k` of them with 0xFF and a free colour nibble, the rest from the
matrix; the other columns and all other state are unchanged, but for `draws`, the model's own count of free nibbles
(log 14). -/
def Obligations.BecomingBadInTheWindowFetches : Prop :=
  ∀ s : State,
    let c := s.operands.cycle
    let w0 := s.cfg.fetchCycle
    let c0 := s.cfg.fetchCycle + s.cfg.baLead
    let w1 := s.cfg.fetchCycle + s.cfg.baLead + textCols
    let pos := if c0 ≤ c ∧ s.idleState = false then c - c0 else 0
    let num := if c0 ≤ c then w1 - c else textCols
    let k := min num (if c0 ≤ c then s.cfg.baLead else c - w0)
    badLineCondition s.cfg.toConfig s.operands.oldCr s.operands.line = false →
    badLineCondition s.cfg.toConfig s.operands.newCr s.operands.line = true →
    w0 ≤ c → c < w1 →
    ∃ t, exec .eventBadlineEval s = .next t ∧
      t = { s with
        allowBadLines := s.operands.newCr.getLsbD 4
        badLine := true
        ycounter := if c ≤ w0 + 2 then 0 else s.ycounter
        memCounter := s.memptr
        memCounterInc := if c0 ≤ c ∧ s.idleState = true then BitVec.ofNat 8 (c - c0) else 40#8
        idleState := false
        clk := s.clk + BitVec.ofNat 32 (w1 - c)
        stolenCycles := s.stolenCycles + (w1 - c)
        vbuf := t.vbuf
        cbuf := t.cbuf
        backgroundColorSource :=
          if k < num then s.matrixByte (s.memptr + BitVec.ofNat 10 (pos + num - 1)) else s.backgroundColorSource
        draws := s.draws + k } ∧
      ∀ col : Fin 40,
        (pos ≤ col.val → col.val < pos + k → t.vbuf[col] = 0xFF#8 ∧ t.cbuf[col] &&& 0xF0#8 = 0) ∧
        (pos + k ≤ col.val → col.val < pos + num →
          t.vbuf[col] = s.matrixByte (s.memptr + BitVec.ofNat 10 col.val) ∧
          t.cbuf[col] = s.colorByte (s.memptr + BitVec.ofNat 10 col.val)) ∧
        (col.val < pos ∨ pos + num ≤ col.val → t.vbuf[col] = s.vbuf[col] ∧ t.cbuf[col] = s.cbuf[col])

/-! Fetch units. -/

/-- 43_fetch.md R175: FETCH_MATRIX copies the columns of its range from the matrix and from colour RAM, positions modulo
1024, records the last matrix byte, and changes nothing else; out of range it is an AssertFail. -/
def Obligations.FetchMatrixCopiesColumns : Prop :=
  ∀ (s : State) (offset count : Nat),
    (s.operands.offset = offset → s.operands.count = count → offset + count ≤ 40 →
      exec .eventFetchMatrix s = .next { s with
        vbuf := Vector.ofFn fun c : Fin 40 =>
          if offset ≤ c.val ∧ c.val < offset + count then
            s.phi1Read (s.screenAddr + BitVec.ofNat 16 ((s.memCounter.toNat + c.val) % 1024))
          else s.vbuf[c]
        cbuf := Vector.ofFn fun c : Fin 40 =>
          if offset ≤ c.val ∧ c.val < offset + count then
            s.colorByte (BitVec.ofNat 10 ((s.memCounter.toNat + c.val) % 1024))
          else s.cbuf[c]
        backgroundColorSource :=
          if 0 < count then
            s.phi1Read (s.screenAddr + BitVec.ofNat 16 ((s.memCounter.toNat + (offset + count - 1)) % 1024))
          else s.backgroundColorSource }) ∧
    (s.operands.offset < 0 ∨ s.operands.count < 0 ∨ 40 < s.operands.offset + s.operands.count →
      exec .eventFetchMatrix s = .fault (.assertFail .fetchMatrixRange))

/-- 43_fetch.md R180 to R182: CHECK_SPRITE_DMA, sprite by sprite. An active sprite's pointer advances by its increment
modulo 64, its flip-flop toggles if expanded, and its DMA ends at 63; an inactive one starts if it is enabled and its Y is
the low byte of the line; any other sprite, and everything else, is unchanged. -/
def Obligations.CheckSpriteDmaPerSprite : Prop :=
  ∀ s : State, ∃ t, exec .eventCheckSpriteDma s = .next t ∧
    t = { s with sprites := t.sprites, newSpriteDmaMask := t.newSpriteDmaMask } ∧
    ∀ i : SpriteNo,
      let old := s.sprites[i]
      let expanded := (s.reg 0x17).getLsbD i.val
      let starts := (s.reg 0x15).getLsbD i.val = true ∧ s.spriteY i = s.currentLine.setWidth 8
      (s.newSpriteDmaMask.getLsbD i.val = true →
        let flag := if expanded then !old.expFlag else old.expFlag
        t.sprites[i] = { old with
          memptr := old.memptr + old.memptrInc, expFlag := flag, memptrInc := if flag then 3 else 0 } ∧
        (t.newSpriteDmaMask.getLsbD i.val = true ↔ old.memptr + old.memptrInc ≠ 63)) ∧
      (s.newSpriteDmaMask.getLsbD i.val = false → starts →
        t.sprites[i] = { old with
          memptr := 0, expFlag := !expanded, memptrInc := if expanded then 0 else 3 } ∧
        t.newSpriteDmaMask.getLsbD i.val = true) ∧
      (s.newSpriteDmaMask.getLsbD i.val = false → ¬starts →
        t.sprites[i] = old ∧ t.newSpriteDmaMask.getLsbD i.val = false)

/-! The renderer. -/

/-- 44_renderer.md R230, R204, R206, R219: DRAW_LINE completes on every state, delivers one line of `8 * CPL` pixels under
the number of the current line, drains the queue into the line-start values, evaluates the vertical border and latches
the idle byte; registers, counters, accumulators, alarms and memories are unchanged. Its result is left in the model's
own field `lineCollisions` (log 17). -/
def Obligations.DrawLineDeliversOneLine : Prop :=
  ∀ s : State, ∃ t pixels, exec .eventDrawLine s = .next t ∧
    t.lines = s.lines ++ [{ line := s.currentLine, pixels := pixels }] ∧ pixels.length = 8 * s.cfg.cpl ∧
    t.changes = [] ∧ t.lineStart = s.renderEnd ∧
    t.idleData = (if s.idleState then
      s.phi1Read (s.vbankPhi1 ||| if (s.reg 0x11).getLsbD 6 then 0x39FF#16 else 0x3FFF#16) else s.idleData) ∧
    t.verticalBorder = (if s.currentLine = s.borderTop ∧ s.blank = false then false
      else if s.currentLine = s.borderBottom + 1 then true else s.verticalBorder) ∧
    t = { s with
      lines := t.lines, changes := t.changes, lineStart := t.lineStart, idleData := t.idleData
      verticalBorder := t.verticalBorder, lineCollisions := t.lineCollisions, cache := t.cache
      dirtyRange := t.dirtyRange }

/-- 44_renderer.md R224 to R226: each pixel of the delivered line is the border colour where the border covers it, else the
graphics colour where no sprite is opaque, else the colour of the opaque sprite with the lowest number, unless that
sprite is behind a foreground pixel. What the border covers is R206; the graphics colour and its foreground bit are R218
with the gap of R213 and the column's inputs of R205. -/
def Obligations.PixelsAreComposed : Prop :=
  ∀ s : State, ∃ t pixels, exec .eventDrawLine s = .next t ∧
    t.lines = s.lines ++ [{ line := s.currentLine, pixels := pixels }] ∧
    let s1 := latchIdle (updateVerticalBorder s)
    let x0 := s.cfg.displayX0
    ∀ x, x < 8 * s.cfg.cpl →
      let regs := s1.renderAt x
      let left : Int := x0 + if regs.columnMode then s.cfg.left40 else s.cfg.left38
      let right : Int := x0 + if regs.columnMode then s.cfg.right40 else s.cfg.right38
      let gap := if s.idleState = false ∧ regs.videoMode = .extendedText then
          regs.background.getD (s.backgroundColorSource.toNat / 64) 0
        else if s.idleState = false ∧ regs.videoMode = .hiresBitmap then s.backgroundColorSource.extractLsb' 0 4
        else regs.background[0]
      let n := x - x0 - regs.xsmooth.toNat
      let col := n / 8
      let at0 := s1.renderAt (x0 + 8 * col)
      let mode := if s.idleState then .idle else at0.videoMode
      let code := (s.vbuf.getD col 0).toNat
      let row := s.ycounter.toNat
      let bitmap := BitVec.ofNat 16 ((s.memCounter.toNat + col) % 1024 * 8 + row)
      let address := match mode with
        | .normalText | .multicolorText => at0.charBase + BitVec.ofNat 16 (code * 8 + row)
        | .extendedText | .illegalText => at0.charBase + BitVec.ofNat 16 (code % 64 * 8 + row)
        | .hiresBitmap | .multicolorBitmap => at0.bitmapBase + bitmap
        | .illegalBitmap1 | .illegalBitmap2 => at0.bitmapBase + (bitmap &&& 0x19FF#16)
        | .idle => 0
      let g := if mode = .idle then t.idleData else s.phi1Read address
      let c := if mode = .idle then 0 else s.vbuf.getD col 0
      let k := if mode = .idle then 0 else (s.cbuf.getD col 0).extractLsb' 0 4
      (s1.borderPixel x = true ↔ s.blank = true ∨ t.verticalBorder = true ∨ (x : Int) < left ∨ right ≤ (x : Int)) ∧
      s1.gfxPixel x =
        (if s.blank = true ∨ t.verticalBorder = true ∨ x < x0 ∨ x0 + 320 ≤ x then (regs.background[0], false)
        else if x < x0 + regs.xsmooth.toNat then (gap, false)
        else modePixel (if s.idleState then .idle else regs.videoMode) g c k (n % 8) regs) ∧
      (s1.borderPixel x = true → pixels[x]? = some regs.borderColor) ∧
      (s1.borderPixel x = false → (∀ i, s1.spritePixel regs i x = none) → pixels[x]? = some (s1.gfxPixel x).1) ∧
      ∀ (f : SpriteNo) (c : Colour), s1.borderPixel x = false → s1.spritePixel regs f x = some c →
        (∀ i, i < f → s1.spritePixel regs i x = none) →
        pixels[x]? = some (if (s.reg 0x1B).getLsbD f.val = true ∧ (s1.gfxPixel x).2 = true then (s1.gfxPixel x).1
          else c)

/-- 44_renderer.md R227, R228: the collision bits of the line. A sprite's sprite-sprite bit is set exactly if at some pixel
of the line it and another sprite are opaque; its sprite-background bit exactly if at some pixel it is opaque over a
foreground pixel. Neither looks at the border or the priority. Where a sprite is opaque, and its colour there, is R221 to
R223. -/
def Obligations.CollisionBitsOfALine : Prop :=
  ∀ s : State, ∃ t, exec .eventDrawLine s = .next t ∧
    let s1 := latchIdle (updateVerticalBorder s)
    (∀ i : SpriteNo,
      (t.lineCollisions.1.getLsbD i.val = true ↔
        ∃ x, x < 8 * s.cfg.cpl ∧ (s1.spritePixel (s1.renderAt x) i x).isSome = true ∧
          ∃ j, j ≠ i ∧ (s1.spritePixel (s1.renderAt x) j x).isSome = true) ∧
      (t.lineCollisions.2.getLsbD i.val = true ↔
        ∃ x, x < 8 * s.cfg.cpl ∧ (s1.spritePixel (s1.renderAt x) i x).isSome = true ∧ (s1.gfxPixel x).2 = true)) ∧
    ∀ (i : SpriteNo) (x : Nat) (regs : RenderRegs),
      let left : Int := s.cfg.displayX0 - 24 + (s.reg (BitVec.ofNat 6 (2 * i.val))).toNat +
        if (s.reg 0x10).getLsbD i.val then 256 else 0
      let n : Int := x - left
      let expanded := (s.reg 0x1D).getLsbD i.val
      let j := if expanded then n.toNat / 2 else n.toNat
      let d := s.sprites[i].data
      let hi := d.getLsbD (23 - 2 * (j / 2))
      let lo := d.getLsbD (22 - 2 * (j / 2))
      s1.spritePixel regs i x =
        if s.spriteDmaMask.getLsbD i.val = true ∧ 0 ≤ n ∧ n < (if expanded then 48 else 24) then
          if (s.reg 0x1C).getLsbD i.val then
            (if hi then (if lo then some regs.spriteMc[1] else some regs.spriteColor[i])
              else if lo then some regs.spriteMc[0] else none)
          else if d.getLsbD (23 - j) then some regs.spriteColor[i] else none
        else none

/-- The colour and foreground bit of a pixel in each of the nine modes (44_renderer.md R209 to R217). -/
def Obligations.ModePixelsFollowTheModes : Prop :=
  ∀ (g c : Byte) (k : Colour) (b : Nat) (r : RenderRegs), b < 8 →
    let bit := g.getLsbD (7 - b)
    let hi := g.getLsbD (7 - 2 * (b / 2))
    let lo := g.getLsbD (6 - 2 * (b / 2))
    let b0 := r.background[0]
    modePixel .normalText g c k b r = (if bit then (k, true) else (b0, false)) ∧
    modePixel .multicolorText g c k b r =
      (if k.getLsbD 3 then
        (if hi then (if lo then (k &&& 7, true) else (r.background[2], true))
          else if lo then (r.background[1], false) else (b0, false))
       else if bit then (k &&& 7, true) else (b0, false)) ∧
    modePixel .hiresBitmap g c k b r = (if bit then (c.extractLsb' 4 4, true) else (c.extractLsb' 0 4, false)) ∧
    modePixel .multicolorBitmap g c k b r =
      (if hi then (if lo then (k, true) else (c.extractLsb' 0 4, true))
        else if lo then (c.extractLsb' 4 4, false) else (b0, false)) ∧
    modePixel .extendedText g c k b r =
      (if bit then (k, true) else (r.background.getD (c.toNat / 64) 0, false)) ∧
    modePixel .illegalText g c k b r = (0, if k.getLsbD 3 then hi else bit) ∧
    modePixel .illegalBitmap1 g c k b r = (0, bit) ∧
    modePixel .illegalBitmap2 g c k b r = (0, hi) ∧
    modePixel .idle g c k b r = (if bit then (0, true) else (b0, false))

/-- A queued change governs the line from its trigger X on and no pixel left of it, and the next line as a whole
(40_register_file.md R130, 44_renderer.md R203, R204). -/
def Obligations.DeferredChangeTakesEffectAtItsX : Prop :=
  ∀ (s : State) (v : TargetValue) (x : Int),
    (addChange v s).renderAt x =
        (if s.triggerX s.clk ≤ x then (s.renderAt x).assign v else s.renderAt x) ∧
      (addChange v s).renderEnd = s.renderEnd.assign v ∧
      addChange v s = { s with changes := s.changes ++ [⟨s.triggerX s.clk, v⟩] }

/-- 44_renderer.md R208: the cache has no observable effect. Two states that differ only in the cache (and the dirty
range, which is no output) answer every operation alike, and go on differing only there. -/
def Obligations.CacheIsNeverObservable : Prop :=
  ∀ (i : Instr) (s : State), eraseOutcome (exec i s) = eraseOutcome (exec i s.eraseCache)

/-! Host operations. -/

/-- 60_exceptions.md R264: the first LIGHTPEN_TRIGGER of a frame latches the position and raises `ILP`; a second changes
nothing. -/
def Obligations.LightpenLatchesOncePerFrame : Prop :=
  FlushedResult 0 .eventLightpenTrigger fun s =>
    if s.lightPen.triggered then s
    else { s with
      lightPen := {
        triggered := true
        x := BitVec.ofInt 8 ((s.triggerX s.clk - s.cfg.displayX0 + 24) % 512 / 2)
        y := BitVec.ofNat 8 s.lineNow }
      irqStatus := s.irqStatus ||| 0x08#8
      irqLine := irqRequest (s.irqStatus ||| 0x08#8) (s.reg 0x1A) }

/-- 70_reset_and_hazards.md R286 with the values of 10_state.md R36: RESET completes on every state without a flush; it
keeps the CPU clock, colour RAM, the bank selectors and the RAM base, and (the model's choice, log 20) the outputs that
no row of R36 names, the memories' contents and what is still in the inbox. -/
def Obligations.ResetGivesTheResetValues : Prop :=
  ∀ s : State, ∃ t, exec .eventReset s = .next t ∧
    t = { State.reset with
      cfg := s.cfg
      clk := s.clk
      clkOrigin := s.clk
      fetchClk := s.clk + BitVec.ofNat 32 s.cfg.fetchCycle
      drawClk := s.clk + BitVec.ofNat 32 (if 0 < s.cfg.drawCycle then s.cfg.drawCycle else s.cfg.cpl)
      rasterIrqClk := s.clk + BitVec.ofNat 32 s.cfg.frame
      spriteFetchBase := s.clk
      colorRam := s.colorRam
      vbankPhi1 := s.vbankPhi1
      vbankPhi2 := s.vbankPhi2
      ramBaseOffset := s.ramBaseOffset
      lineStart := { RenderRegs.reset with
        screenBase := s.vbankPhi1, charBase := s.vbankPhi1, bitmapBase := s.vbankPhi1 }
      borderTop := s.cfg.top24
      borderBottom := s.cfg.bottom24
      ram := s.ram
      chargen := s.chargen
      romh := s.romh
      memoryTime := s.memoryTime
      ultimax := s.ultimax
      readData := s.readData
      lines := s.lines
      log := s.log
      snapshotOut := s.snapshotOut
      lineCollisions := s.lineCollisions
      dirtyRange := s.dirtyRange
      inbox := s.inbox
      operands := s.operands
      draws := s.draws }

/-- The machine right after power-up is a state that a further RESET leaves as it is (70_reset_and_hazards.md R285: creation
gives every field its reset value and is followed by a RESET). -/
def Obligations.ResetOfTheResetState : Prop := exec .eventReset State.reset = .next State.reset

/-- 45_snapshot.md R244, R242, R243: SNAPSHOT_WRITE is an ADVANCE whose result, held in `snapshotOut` (log 18), is the
version and the body of the state ADVANCE left, and nothing else is changed; with no alarm due ADVANCE changes nothing.
The body has 1223 bytes: every field of R242 at its offset, a wider field least significant byte first, the registers as
stored, by address (30_encoding.md R64, log 7). -/
def Obligations.SnapshotWriteGivesTheBody : Prop :=
  let written := fun s : State =>
    { s with snapshotOut := some { version := s.cfg.snapshotVersion, body := s.body } }
  (∀ s s1 : State, exec .eventAdvance s = .next s1 → exec .eventSnapshotWrite s = .next (written s1)) ∧
    (∀ (s : State) (e : Fault), exec .eventAdvance s = .fault e → exec .eventSnapshotWrite s = .fault e) ∧
    (∀ s : State, s.allQuiet → exec .eventSnapshotWrite s = .next (written s)) ∧
    ∀ s : State,
      let flag := fun b : Bool => if b then 1#8 else 0#8
      s.body.length = 1223 ∧
      s.body[0]? = some (flag s.allowBadLines) ∧ s.body[1]? = some (flag s.badLine) ∧
      s.body[2]? = some (flag s.blank) ∧
      (∀ c : Fin 40, s.body[3 + c.val]? = some s.cbuf[c] ∧ s.body[1071 + c.val]? = some s.vbuf[c]) ∧
      (∀ k : Fin 1024, s.body[43 + k.val]? = some (s.colorByte (BitVec.ofNat 10 k.val))) ∧
      s.body[1067]? = some (flag s.idleState) ∧ s.body[1068]? = some (flag s.lightPen.triggered) ∧
      s.body[1069]? = some s.lightPen.x ∧ s.body[1070]? = some s.lightPen.y ∧
      s.body[1111]? = some s.newSpriteDmaMask ∧
      (∀ k : Fin 4, s.body[1112 + k.val]? = some (s.ramBaseOffset.extractLsb' (8 * k.val) 8)) ∧
      s.body[1116]? = some (BitVec.ofNat 8 s.cycleNow) ∧
      (∀ k : Fin 2, s.body[1117 + k.val]? = some (BitVec.ofNat 8 (s.lineNow / 256 ^ k.val))) ∧
      (∀ a : RegAddr, s.body[1119 + a.toNat]? =
        some (s.cfg.busByte (s.cfg.registerAt a) (s.reg (s.cfg.registerAt a)))) ∧
      s.body[1183]? = some s.spriteBackgroundCollisions ∧ s.body[1184]? = some s.spriteDmaMask ∧
      s.body[1185]? = some s.spriteSpriteCollisions ∧
      (∀ k : Fin 2, s.body[1186 + k.val]? = some (s.vbankPhi1.extractLsb' (8 * k.val) 8) ∧
        s.body[1188 + k.val]? = some (BitVec.ofNat 8 (s.memCounter.toNat / 256 ^ k.val)) ∧
        s.body[1191 + k.val]? = some (BitVec.ofNat 8 (s.memptr.toNat / 256 ^ k.val))) ∧
      s.body[1190]? = some s.memCounterInc ∧ s.body[1193]? = some s.irqStatus ∧
      (∀ i : SpriteNo, s.body[1194 + 3 * i.val]? = some (s.sprites[i].memptr.setWidth 8) ∧
        s.body[1195 + 3 * i.val]? = some (s.sprites[i].memptrInc.setWidth 8) ∧
        s.body[1196 + 3 * i.val]? = some (flag s.sprites[i].expFlag)) ∧
      (∀ k : Fin 4, s.body[1218 + k.val]? = some ((s.fetchClk - s.clk).extractLsb' (8 * k.val) 8)) ∧
      s.body[1222]? = some (match s.fetchIdx with
        | .fetchMatrix => 0#8
        | .checkSpriteDma => 1#8
        | .fetchSprite => 2#8)

/-- 60_exceptions.md R273, R274, 45_snapshot.md R246: a load that fails changes no state, bit for bit, but adds its message
to the log output; a newer version, a wrong size and a raster mismatch each fail. -/
def Obligations.SnapshotLoadIsAllOrNothing : Prop :=
  ∀ s : State,
    (∃ t, exec .eventSnapshotLoad s = .next t) ∧
    (∀ m, s.loadProblem s.operands.version s.operands.body = some m →
      exec .eventSnapshotLoad s = .next { s with log := s.log ++ [m] }) ∧
    (s.operands.version.newerThan s.cfg.snapshotVersion = true →
      exec .eventSnapshotLoad s = .next { s with log := s.log ++ [.snapshotVersionError s.operands.version] }) ∧
    (s.operands.version.newerThan s.cfg.snapshotVersion = false → s.operands.body.length ≠ 1223 →
      exec .eventSnapshotLoad s = .next { s with log := s.log ++ [.snapshotLoadError .size] }) ∧
    (s.operands.version.newerThan s.cfg.snapshotVersion = false → s.operands.body.length = 1223 →
      ((byteAt s.operands.body 1116).toNat ≠ s.cycleNow ∨ (word16At s.operands.body 1117).toNat ≠ s.lineNow) →
      exec .eventSnapshotLoad s = .next { s with log := s.log ++ [.snapshotLoadError .rasterPositionMismatch] })

/-- What a load gives (45_snapshot.md R246 to R251, details as in logs 7 and 22). A body that passes the checks, in any
fetch state, is stored field by field, and everything the format does not carry is recomputed: the line in progress, the
next draw alarm, the raster compare with its alarm, the border, the line-start values, the row counter, the sprite fetch
list in progress; the rest of the state is kept. Then the part of the round-trip law of R252 that holds at the instant of
the load: the result of a SNAPSHOT_WRITE of one instance, loaded by another that has the same configuration and the same
raster position (and, in fetch state FETCH_SPRITE, a tuple at the restored fetch time), gives back every field the format
carries, and the derived ones agree with the restored registers. -/
def Obligations.SnapshotRoundTrip : Prop :=
  let fetchBase : State → Clock → Clock := fun u f =>
    f - BitVec.ofInt 32 (((f.toNat : Int) - u.clkOrigin.toNat - u.cfg.spriteFetchCycle) % u.cfg.cpl)
  let tupleAt : State → Byte → Clock → Nat → Prop := fun u mask f k =>
    ∃ tup, (u.cfg.fetchList mask)[k]? = some tup ∧ fetchBase u f + BitVec.ofInt 32 tup.cycle = f
  (∀ u : State,
    let byte : Nat → Byte := fun k => u.operands.body.getD k 0
    let word : Nat → BitVec 16 := fun k => byte (k + 1) ++ byte k
    let long : Nat → BitVec 32 := fun k => byte (k + 3) ++ byte (k + 2) ++ byte (k + 1) ++ byte k
    let flag : Nat → Bool := fun k => byte k == 1#8
    let fetch : Clock := u.clk + long 1218
    let line := u.rasterY ((u.clk.toNat : Int) - u.cfg.drawCycle)
    u.operands.version.newerThan u.cfg.snapshotVersion = false → u.operands.body.length = 1223 →
    (byte 1116).toNat = u.cycleNow → (word 1117).toNat = u.lineNow → byte 1222 ≤ 2 →
    (∀ k ∈ [0, 1, 2, 1067, 1068], byte k ≤ 1) →
    (∀ i : SpriteNo, byte (1194 + 3 * i.val) ≤ 63 ∧ byte (1195 + 3 * i.val) ≤ 63 ∧ byte (1196 + 3 * i.val) ≤ 1) →
    word 1188 ≤ 1023 → word 1191 ≤ 1023 → byte 1190 ≤ 40 → word 1186 &&& 0x3FFF = 0 →
    (byte 1222 = 2 → ∃ k, tupleAt u (byte 1111) fetch k) →
    ∃ t, exec .eventSnapshotLoad u = .next t ∧
      (∀ r : RegAddr, t.reg r = u.cfg.registerByte r (byte (1119 + (u.cfg.addressOf r).toNat))) ∧
      (∀ k : BitVec 10, t.colorByte k = byte (43 + k.toNat)) ∧
      (∃ n, 1 ≤ n ∧ n ≤ u.cfg.cpl ∧ (u.cycleNow + n) % u.cfg.cpl = u.cfg.drawCycle ∧
        t.drawClk = u.clk + BitVec.ofNat 32 n) ∧
      (byte 1222 = 2 → tupleAt u (byte 1111) fetch t.spriteFetchIdx) ∧
      (byte 1222 ≠ 2 → t.spriteFetchIdx = 0) ∧
      let compare : BitVec 16 := (if (t.reg 0x11).getLsbD 7 then 0x100#16 else 0#16) ||| (t.reg 0x12).setWidth 16
      let start := u.clkOrigin + BitVec.ofNat 32 (compare.toNat * u.cfg.cpl)
      let rows := u.cfg.rows ((t.reg 0x11).getLsbD 3)
      t = { u with
        allowBadLines := flag 0, badLine := flag 1, blank := flag 2
        cbuf := Vector.ofFn fun c : Fin 40 => byte (3 + c.val)
        colorRam := t.colorRam
        idleState := flag 1067
        lightPen := { triggered := flag 1068, x := byte 1069, y := byte 1070 }
        vbuf := Vector.ofFn fun c : Fin 40 => byte (1071 + c.val)
        newSpriteDmaMask := byte 1111
        ramBaseOffset := long 1112
        regs := t.regs
        spriteBackgroundCollisions := byte 1183, spriteDmaMask := byte 1184, spriteSpriteCollisions := byte 1185
        vbankPhi1 := word 1186, vbankPhi2 := word 1186
        memCounter := (word 1188).setWidth 10, memCounterInc := byte 1190, memptr := (word 1191).setWidth 10
        irqStatus := byte 1193 &&& 0x0F
        sprites := Vector.ofFn fun i : SpriteNo => {
          memptr := (byte (1194 + 3 * i.val)).setWidth 6
          memptrInc := (byte (1195 + 3 * i.val)).setWidth 6
          expFlag := flag (1196 + 3 * i.val)
          data := 0, dataNext := 0, pointer := 0 }
        fetchClk := fetch
        fetchIdx := if byte 1222 = 0 then .fetchMatrix else if byte 1222 = 1 then .checkSpriteDma else .fetchSprite
        spriteFetchMsk := if byte 1222 = 2 then byte 1111 else 0
        spriteFetchIdx := t.spriteFetchIdx
        spriteFetchBase := if byte 1222 = 2 then fetchBase u fetch else u.clkOrigin
        currentLine := BitVec.ofNat 16 line
        drawClk := t.drawClk
        rasterIrqLine := compare
        rasterIrqClk :=
          if u.cfg.screenHeight ≤ compare.toNat then u.cfg.clockMax
          else if start ≤ u.clk then start + BitVec.ofNat 32 u.cfg.frame else start
        log := u.log ++ if u.cfg.screenHeight ≤ compare.toNat then [.rasterCompareOutOfRange compare] else []
        videoMode := modeOfRegs (t.reg 0x11) (t.reg 0x16)
        borderTop := rows.1, borderBottom := rows.2
        verticalBorder := if rows.1.toNat ≤ line ∧ line ≤ rows.2.toNat then flag 2 else true
        changes := [], lineStart := t.renderFromRegs
        irqLine := irqRequest (byte 1193 &&& 0x0F) (t.reg 0x1A)
        backgroundColorSource := byte 1110
        ycounter := BitVec.ofNat 3 line - (t.reg 0x11).extractLsb' 0 3
        forceDisplayState := false, lastRead := 0, stolenCycles := 0
        cache := [] }) ∧
  ∀ (w s u : State) (p : Snapshot), exec .eventSnapshotWrite w = .next s → s.snapshotOut = some p → RangesOk s →
    (s.fetchIdx = .fetchSprite → ∃ k, tupleAt u s.newSpriteDmaMask (u.clk + (s.fetchClk - s.clk)) k) →
    u.cfg = s.cfg → u.cycleNow = s.cycleNow → u.lineNow = s.lineNow →
    u.operands.version = p.version → u.operands.body = p.body →
    ∃ t, exec .eventSnapshotLoad u = .next t ∧
      t.regs = s.regs ∧ t.vbuf = s.vbuf ∧ t.cbuf = s.cbuf ∧ (∀ a, t.colorByte a = s.colorByte a) ∧
      t.allowBadLines = s.allowBadLines ∧ t.badLine = s.badLine ∧ t.blank = s.blank ∧ t.idleState = s.idleState ∧
      t.lightPen = s.lightPen ∧ t.newSpriteDmaMask = s.newSpriteDmaMask ∧ t.spriteDmaMask = s.spriteDmaMask ∧
      t.ramBaseOffset = s.ramBaseOffset ∧ t.spriteSpriteCollisions = s.spriteSpriteCollisions ∧
      t.spriteBackgroundCollisions = s.spriteBackgroundCollisions ∧ t.vbankPhi1 = s.vbankPhi1 ∧
      t.vbankPhi2 = s.vbankPhi1 ∧ t.memCounter = s.memCounter ∧ t.memCounterInc = s.memCounterInc ∧
      t.memptr = s.memptr ∧ t.irqStatus = s.irqStatus ∧ t.fetchIdx = s.fetchIdx ∧
      t.fetchClk - t.clk = s.fetchClk - s.clk ∧ t.clk = u.clk ∧ t.clkOrigin = u.clkOrigin ∧
      (∀ i : SpriteNo, t.sprites[i].memptr = s.sprites[i].memptr ∧
        t.sprites[i].memptrInc = s.sprites[i].memptrInc ∧ t.sprites[i].expFlag = s.sprites[i].expFlag) ∧
      t.changes = [] ∧ t.lastRead = 0 ∧ DerivedOk t ∧ TargetsOk t

/-- 20_memory.md R47, R48: SET_VBANK with two legal banks and SET_RAM_BASE, after the flush, set their fields and queue the
base pointers that change (40_register_file.md R126 to R129), at the raster X of the operation; a bank value with bits
outside 15:14 is refused. That it is refused before the flush is the model's reading (log 27). -/
def Obligations.BankingTakesEffectOrIsRefused : Prop :=
  let pointers := fun (s : State) (bank : Addr) =>
    s.changes ++ s.pointerChanges (bank ||| ((s.reg 0x18 &&& 0xF0#8).setWidth 16 <<< 6))
      (bank ||| ((s.reg 0x18 &&& 0x0E#8).setWidth 16 <<< 10)) (bank ||| ((s.reg 0x18 &&& 0x08#8).setWidth 16 <<< 10))
  FlushedWhen (fun s => s.operands.vbankPhi1 &&& 0x3FFF#16 = 0 ∧ s.operands.vbankPhi2 &&& 0x3FFF#16 = 0) .eventSetVbank
      (fun s => .next { s with
        vbankPhi1 := s.operands.vbankPhi1
        vbankPhi2 := s.operands.vbankPhi2
        changes := pointers s s.operands.vbankPhi1 }) ∧
    (∀ s : State, s.operands.vbankPhi1 &&& 0x3FFF#16 ≠ 0 ∨ s.operands.vbankPhi2 &&& 0x3FFF#16 ≠ 0 →
      exec .eventSetVbank s = .refused (.illegalBank s.operands.vbankPhi1 s.operands.vbankPhi2)) ∧
    (∀ (s : State) (e : Fault), s.operands.vbankPhi1 &&& 0x3FFF#16 = 0 → s.operands.vbankPhi2 &&& 0x3FFF#16 = 0 →
      flush 0 s = .error e → exec .eventSetVbank s = .fault e) ∧
    FlushedResult 0 .eventSetRamBase fun s =>
      { s with ramBaseOffset := s.operands.ramBase, changes := pointers s s.vbankPhi1 }

/-- 20_memory.md R52: VIDEO_RAM_STORE, after the flush, changes the one byte it stores to: entry `a[9:0]` of colour RAM, or
the byte of RAM at `ram_base_offset + a`; the buffers, the sprites, the cache and everything else stay. -/
def Obligations.VideoRamStoreStoresOneByte : Prop :=
  (∀ s s1 : State, flush 0 s = .ok s1 → s.operands.space = .colorRam →
    ∃ t, exec .eventVideoRamStore s = .next t ∧ t = { s1 with colorRam := t.colorRam } ∧
      ∀ a : BitVec 10, t.colorByte a =
        if a = s.operands.addr.setWidth 10 then s.operands.value else s1.colorByte a) ∧
    (∀ s s1 : State, flush 0 s = .ok s1 → s.operands.space = .ram →
      ∃ t, exec .eventVideoRamStore s = .next t ∧ t = { s1 with ram := t.ram } ∧
        ∀ a : Nat, t.ramByte a =
          if a = (s1.ramBaseOffset + s.operands.addr.setWidth 32).toNat then s.operands.value else s1.ramByte a) ∧
    ∀ s : State, s.quiet 0 = true → flush 0 s = .ok s ∧ ∃ t, exec .eventVideoRamStore s = .next t

/-- Read after write: a byte stored reads back, every other address reads as before, in every memory (the model's way of
holding memory, log 10); and MemRead (20_memory.md R41, R45, R46): the cartridge ROM under ULTIMAX first, then the
character ROM in its windows, then RAM at the RAM base. A byte that a memory holds is what its provider returns; a change
made from outside changes its one byte (log 10). -/
def Obligations.MemoryReadsWhatWasStored : Prop :=
  (∀ (m : Memory) (a b : Nat) (v : Byte),
    Memory.lookup (Memory.store m a v) b = if b = a then some v else Memory.lookup m b) ∧
  (∀ (s : State) (a : Addr), s.phi1Read a =
    if s.ultimax = true ∧ a.toNat / 4096 % 4 = 3 then s.romhByte (a.toNat % 4096)
    else if ∃ w ∈ s.cfg.chargenWindows, w.1 ≤ a ∧ a ≤ w.2 then s.chargenByte (a.toNat % 4096)
    else s.ramByte ((s.ramBaseOffset.toNat + a.toNat) % 2 ^ 32)) ∧
  (∀ (s : State) (p : BitVec 10), s.matrixByte p =
    s.phi1Read ((s.vbankPhi1 ||| ((s.reg 0x18 &&& 0xF0#8).setWidth 16 <<< 6)) + p.setWidth 16)) ∧
  (∀ (s : State) (a : Nat) (v : Byte),
    (Memory.lookup s.ram a = some v → s.ramByte a = v) ∧ (Memory.lookup s.chargen a = some v → s.chargenByte a = v) ∧
      (Memory.lookup s.romh a = some v → s.romhByte a = v)) ∧
  ∀ (s : State) (a : BitVec 32) (k : BitVec 12) (v : Byte) (b : Nat),
    Memory.lookup (s.changeMemory [.ram a v]).ram b = (if b = a.toNat then some v else Memory.lookup s.ram b) ∧
      Memory.lookup (s.changeMemory [.chargen k v]).chargen b =
        (if b = k.toNat then some v else Memory.lookup s.chargen b) ∧
      Memory.lookup (s.changeMemory [.romh k v]).romh b = if b = k.toNat then some v else Memory.lookup s.romh b

/-! The whole machine. -/

/-- Every step keeps the memories in their canonical form, the model's way of holding them (log 10). -/
def Obligations.StepKeepsMemoriesCanonical : Prop :=
  ∀ s t : State, MemoriesOk s → step s = .next t → MemoriesOk t

/-- Every step keeps the ranges of 10_state.md R13, R19 and R22 and of 60_exceptions.md R256 and the sprite fetch index
inside its list. -/
def Obligations.StepKeepsRanges : Prop :=
  ∀ s t : State, RangesOk s → FetchIndexOk s → step s = .next t → RangesOk t ∧ FetchIndexOk t

/-- Every step keeps the interrupt request equal to "some source is pending and enabled" (60_exceptions.md R259), and the
video mode, the compare line, the disarmed raster alarm and the border lines as the registers determine them. -/
def Obligations.StepKeepsDerivedRegisters : Prop :=
  ∀ s t : State, DerivedOk s → step s = .next t → DerivedOk t

/-- Every step keeps each renderer target, after all queued changes, at the value the registers and the resolver give it
(44_renderer.md R204). -/
def Obligations.StepKeepsRendererTargets : Prop :=
  ∀ s t : State, TargetsOk s → step s = .next t → TargetsOk t

/-- Every line ever delivered is a line of the standard with eight pixels for each cycle (44_renderer.md R230). -/
def Obligations.StepKeepsDeliveriesComplete : Prop :=
  ∀ s t : State, RangesOk s → DeliveriesOk s → step s = .next t → DeliveriesOk t

/-- The machine after reset meets every condition that the steps keep. -/
def Obligations.ResetMeetsTheInvariants : Prop :=
  MemoriesOk State.reset ∧ RangesOk State.reset ∧ FetchIndexOk State.reset ∧ DerivedOk State.reset ∧
    TargetsOk State.reset ∧ DeliveriesOk State.reset

/-- 60_exceptions.md R275: with a well-formed configuration, a fetch index inside its list and operands in range (for
CLOCK_OVERFLOW, the model's reading of "below zero", log 21), no operation ends in an AssertFail. -/
def Obligations.NoAssertFailWithinRange : Prop :=
  ∀ (i : Instr) (s : State) (r : AssertReason), FetchIndexOk s → operandsInRange i s →
    exec i s ≠ .fault (.assertFail r)

/-- Who writes what: the registers are written only by WRITE, RESET and SNAPSHOT_LOAD (10_state.md R11), `last_read` only by
READ, RESET and SNAPSHOT_LOAD (R26, 40_register_file.md R83), colour RAM only by VIDEO_RAM_STORE and SNAPSHOT_LOAD (R21),
RAM only by VIDEO_RAM_STORE, and the configuration and the ROMs by nothing. -/
def Obligations.OnlyTheNamedOperationsWrite : Prop :=
  ∀ (i : Instr) (s t : State), exec i s = .next t →
    (t.regs ≠ s.regs → i.fields.op = 1 ∨ i = .eventReset ∨ i = .eventSnapshotLoad) ∧
    (t.lastRead ≠ s.lastRead → i.fields.op = 0 ∨ i = .eventReset ∨ i = .eventSnapshotLoad) ∧
    (t.colorRam ≠ s.colorRam → i = .eventVideoRamStore ∨ i = .eventSnapshotLoad) ∧
    (t.ram ≠ s.ram → i = .eventVideoRamStore) ∧
    t.cfg = s.cfg ∧ t.chargen = s.chargen ∧ t.romh = s.romh
end

