-- ==== Sys2Proof/Laws/State.lean ====
section
/-! SUPPORT. One lemma per field of State per named update: what the update leaves in the field. -/

namespace Sys2Proof.Machine

/-! setReg -/

@[simp] theorem setReg_cfg (s : State) (a : RegAddr) (v : Byte) : (s.setReg a v).cfg = s.cfg := rfl
@[simp] theorem setReg_clk (s : State) (a : RegAddr) (v : Byte) : (s.setReg a v).clk = s.clk := rfl
@[simp] theorem setReg_clkOrigin (s : State) (a : RegAddr) (v : Byte) : (s.setReg a v).clkOrigin = s.clkOrigin := rfl
@[simp] theorem setReg_currentLine (s : State) (a : RegAddr) (v : Byte) : (s.setReg a v).currentLine = s.currentLine := rfl
@[simp] theorem setReg_fetchClk (s : State) (a : RegAddr) (v : Byte) : (s.setReg a v).fetchClk = s.fetchClk := rfl
@[simp] theorem setReg_drawClk (s : State) (a : RegAddr) (v : Byte) : (s.setReg a v).drawClk = s.drawClk := rfl
@[simp] theorem setReg_rasterIrqClk (s : State) (a : RegAddr) (v : Byte) : (s.setReg a v).rasterIrqClk = s.rasterIrqClk := rfl
@[simp] theorem setReg_fetchIdx (s : State) (a : RegAddr) (v : Byte) : (s.setReg a v).fetchIdx = s.fetchIdx := rfl
@[simp] theorem setReg_spriteFetchMsk (s : State) (a : RegAddr) (v : Byte) : (s.setReg a v).spriteFetchMsk = s.spriteFetchMsk := rfl
@[simp] theorem setReg_spriteFetchIdx (s : State) (a : RegAddr) (v : Byte) : (s.setReg a v).spriteFetchIdx = s.spriteFetchIdx := rfl
@[simp] theorem setReg_spriteFetchBase (s : State) (a : RegAddr) (v : Byte) : (s.setReg a v).spriteFetchBase = s.spriteFetchBase := rfl
@[simp] theorem setReg_regs (s : State) (a : RegAddr) (v : Byte) : (s.setReg a v).regs = s.regs.set a.toNat v a.isLt := rfl
@[simp] theorem setReg_videoMode (s : State) (a : RegAddr) (v : Byte) : (s.setReg a v).videoMode = s.videoMode := rfl
@[simp] theorem setReg_idleState (s : State) (a : RegAddr) (v : Byte) : (s.setReg a v).idleState = s.idleState := rfl
@[simp] theorem setReg_badLine (s : State) (a : RegAddr) (v : Byte) : (s.setReg a v).badLine = s.badLine := rfl
@[simp] theorem setReg_allowBadLines (s : State) (a : RegAddr) (v : Byte) : (s.setReg a v).allowBadLines = s.allowBadLines := rfl
@[simp] theorem setReg_blank (s : State) (a : RegAddr) (v : Byte) : (s.setReg a v).blank = s.blank := rfl
@[simp] theorem setReg_forceDisplayState (s : State) (a : RegAddr) (v : Byte) : (s.setReg a v).forceDisplayState = s.forceDisplayState := rfl
@[simp] theorem setReg_ycounter (s : State) (a : RegAddr) (v : Byte) : (s.setReg a v).ycounter = s.ycounter := rfl
@[simp] theorem setReg_memCounter (s : State) (a : RegAddr) (v : Byte) : (s.setReg a v).memCounter = s.memCounter := rfl
@[simp] theorem setReg_memptr (s : State) (a : RegAddr) (v : Byte) : (s.setReg a v).memptr = s.memptr := rfl
@[simp] theorem setReg_memCounterInc (s : State) (a : RegAddr) (v : Byte) : (s.setReg a v).memCounterInc = s.memCounterInc := rfl
@[simp] theorem setReg_vbuf (s : State) (a : RegAddr) (v : Byte) : (s.setReg a v).vbuf = s.vbuf := rfl
@[simp] theorem setReg_cbuf (s : State) (a : RegAddr) (v : Byte) : (s.setReg a v).cbuf = s.cbuf := rfl
@[simp] theorem setReg_backgroundColorSource (s : State) (a : RegAddr) (v : Byte) : (s.setReg a v).backgroundColorSource = s.backgroundColorSource := rfl
@[simp] theorem setReg_idleData (s : State) (a : RegAddr) (v : Byte) : (s.setReg a v).idleData = s.idleData := rfl
@[simp] theorem setReg_colorRam (s : State) (a : RegAddr) (v : Byte) : (s.setReg a v).colorRam = s.colorRam := rfl
@[simp] theorem setReg_vbankPhi1 (s : State) (a : RegAddr) (v : Byte) : (s.setReg a v).vbankPhi1 = s.vbankPhi1 := rfl
@[simp] theorem setReg_vbankPhi2 (s : State) (a : RegAddr) (v : Byte) : (s.setReg a v).vbankPhi2 = s.vbankPhi2 := rfl
@[simp] theorem setReg_ramBaseOffset (s : State) (a : RegAddr) (v : Byte) : (s.setReg a v).ramBaseOffset = s.ramBaseOffset := rfl
@[simp] theorem setReg_irqStatus (s : State) (a : RegAddr) (v : Byte) : (s.setReg a v).irqStatus = s.irqStatus := rfl
@[simp] theorem setReg_rasterIrqLine (s : State) (a : RegAddr) (v : Byte) : (s.setReg a v).rasterIrqLine = s.rasterIrqLine := rfl
@[simp] theorem setReg_irqLine (s : State) (a : RegAddr) (v : Byte) : (s.setReg a v).irqLine = s.irqLine := rfl
@[simp] theorem setReg_spriteSpriteCollisions (s : State) (a : RegAddr) (v : Byte) : (s.setReg a v).spriteSpriteCollisions = s.spriteSpriteCollisions := rfl
@[simp] theorem setReg_spriteBackgroundCollisions (s : State) (a : RegAddr) (v : Byte) : (s.setReg a v).spriteBackgroundCollisions = s.spriteBackgroundCollisions := rfl
@[simp] theorem setReg_lastRead (s : State) (a : RegAddr) (v : Byte) : (s.setReg a v).lastRead = s.lastRead := rfl
@[simp] theorem setReg_lightPen (s : State) (a : RegAddr) (v : Byte) : (s.setReg a v).lightPen = s.lightPen := rfl
@[simp] theorem setReg_sprites (s : State) (a : RegAddr) (v : Byte) : (s.setReg a v).sprites = s.sprites := rfl
@[simp] theorem setReg_newSpriteDmaMask (s : State) (a : RegAddr) (v : Byte) : (s.setReg a v).newSpriteDmaMask = s.newSpriteDmaMask := rfl
@[simp] theorem setReg_spriteDmaMask (s : State) (a : RegAddr) (v : Byte) : (s.setReg a v).spriteDmaMask = s.spriteDmaMask := rfl
@[simp] theorem setReg_changes (s : State) (a : RegAddr) (v : Byte) : (s.setReg a v).changes = s.changes := rfl
@[simp] theorem setReg_lineStart (s : State) (a : RegAddr) (v : Byte) : (s.setReg a v).lineStart = s.lineStart := rfl
@[simp] theorem setReg_cache (s : State) (a : RegAddr) (v : Byte) : (s.setReg a v).cache = s.cache := rfl
@[simp] theorem setReg_dirtyRange (s : State) (a : RegAddr) (v : Byte) : (s.setReg a v).dirtyRange = s.dirtyRange := rfl
@[simp] theorem setReg_borderTop (s : State) (a : RegAddr) (v : Byte) : (s.setReg a v).borderTop = s.borderTop := rfl
@[simp] theorem setReg_borderBottom (s : State) (a : RegAddr) (v : Byte) : (s.setReg a v).borderBottom = s.borderBottom := rfl
@[simp] theorem setReg_verticalBorder (s : State) (a : RegAddr) (v : Byte) : (s.setReg a v).verticalBorder = s.verticalBorder := rfl
@[simp] theorem setReg_ram (s : State) (a : RegAddr) (v : Byte) : (s.setReg a v).ram = s.ram := rfl
@[simp] theorem setReg_chargen (s : State) (a : RegAddr) (v : Byte) : (s.setReg a v).chargen = s.chargen := rfl
@[simp] theorem setReg_romh (s : State) (a : RegAddr) (v : Byte) : (s.setReg a v).romh = s.romh := rfl
@[simp] theorem setReg_memoryTime (s : State) (a : RegAddr) (v : Byte) : (s.setReg a v).memoryTime = s.memoryTime := rfl
@[simp] theorem setReg_ultimax (s : State) (a : RegAddr) (v : Byte) : (s.setReg a v).ultimax = s.ultimax := rfl
@[simp] theorem setReg_readData (s : State) (a : RegAddr) (v : Byte) : (s.setReg a v).readData = s.readData := rfl
@[simp] theorem setReg_stolenCycles (s : State) (a : RegAddr) (v : Byte) : (s.setReg a v).stolenCycles = s.stolenCycles := rfl
@[simp] theorem setReg_lines (s : State) (a : RegAddr) (v : Byte) : (s.setReg a v).lines = s.lines := rfl
@[simp] theorem setReg_log (s : State) (a : RegAddr) (v : Byte) : (s.setReg a v).log = s.log := rfl
@[simp] theorem setReg_snapshotOut (s : State) (a : RegAddr) (v : Byte) : (s.setReg a v).snapshotOut = s.snapshotOut := rfl
@[simp] theorem setReg_lineCollisions (s : State) (a : RegAddr) (v : Byte) : (s.setReg a v).lineCollisions = s.lineCollisions := rfl
@[simp] theorem setReg_inbox (s : State) (a : RegAddr) (v : Byte) : (s.setReg a v).inbox = s.inbox := rfl
@[simp] theorem setReg_operands (s : State) (a : RegAddr) (v : Byte) : (s.setReg a v).operands = s.operands := rfl
@[simp] theorem setReg_draws (s : State) (a : RegAddr) (v : Byte) : (s.setReg a v).draws = s.draws := rfl

/-! returnRead -/

@[simp] theorem returnRead_cfg (s : State) (v : Byte) : (s.returnRead v).cfg = s.cfg := rfl
@[simp] theorem returnRead_clk (s : State) (v : Byte) : (s.returnRead v).clk = s.clk := rfl
@[simp] theorem returnRead_clkOrigin (s : State) (v : Byte) : (s.returnRead v).clkOrigin = s.clkOrigin := rfl
@[simp] theorem returnRead_currentLine (s : State) (v : Byte) : (s.returnRead v).currentLine = s.currentLine := rfl
@[simp] theorem returnRead_fetchClk (s : State) (v : Byte) : (s.returnRead v).fetchClk = s.fetchClk := rfl
@[simp] theorem returnRead_drawClk (s : State) (v : Byte) : (s.returnRead v).drawClk = s.drawClk := rfl
@[simp] theorem returnRead_rasterIrqClk (s : State) (v : Byte) : (s.returnRead v).rasterIrqClk = s.rasterIrqClk := rfl
@[simp] theorem returnRead_fetchIdx (s : State) (v : Byte) : (s.returnRead v).fetchIdx = s.fetchIdx := rfl
@[simp] theorem returnRead_spriteFetchMsk (s : State) (v : Byte) : (s.returnRead v).spriteFetchMsk = s.spriteFetchMsk := rfl
@[simp] theorem returnRead_spriteFetchIdx (s : State) (v : Byte) : (s.returnRead v).spriteFetchIdx = s.spriteFetchIdx := rfl
@[simp] theorem returnRead_spriteFetchBase (s : State) (v : Byte) : (s.returnRead v).spriteFetchBase = s.spriteFetchBase := rfl
@[simp] theorem returnRead_regs (s : State) (v : Byte) : (s.returnRead v).regs = s.regs := rfl
@[simp] theorem returnRead_videoMode (s : State) (v : Byte) : (s.returnRead v).videoMode = s.videoMode := rfl
@[simp] theorem returnRead_idleState (s : State) (v : Byte) : (s.returnRead v).idleState = s.idleState := rfl
@[simp] theorem returnRead_badLine (s : State) (v : Byte) : (s.returnRead v).badLine = s.badLine := rfl
@[simp] theorem returnRead_allowBadLines (s : State) (v : Byte) : (s.returnRead v).allowBadLines = s.allowBadLines := rfl
@[simp] theorem returnRead_blank (s : State) (v : Byte) : (s.returnRead v).blank = s.blank := rfl
@[simp] theorem returnRead_forceDisplayState (s : State) (v : Byte) : (s.returnRead v).forceDisplayState = s.forceDisplayState := rfl
@[simp] theorem returnRead_ycounter (s : State) (v : Byte) : (s.returnRead v).ycounter = s.ycounter := rfl
@[simp] theorem returnRead_memCounter (s : State) (v : Byte) : (s.returnRead v).memCounter = s.memCounter := rfl
@[simp] theorem returnRead_memptr (s : State) (v : Byte) : (s.returnRead v).memptr = s.memptr := rfl
@[simp] theorem returnRead_memCounterInc (s : State) (v : Byte) : (s.returnRead v).memCounterInc = s.memCounterInc := rfl
@[simp] theorem returnRead_vbuf (s : State) (v : Byte) : (s.returnRead v).vbuf = s.vbuf := rfl
@[simp] theorem returnRead_cbuf (s : State) (v : Byte) : (s.returnRead v).cbuf = s.cbuf := rfl
@[simp] theorem returnRead_backgroundColorSource (s : State) (v : Byte) : (s.returnRead v).backgroundColorSource = s.backgroundColorSource := rfl
@[simp] theorem returnRead_idleData (s : State) (v : Byte) : (s.returnRead v).idleData = s.idleData := rfl
@[simp] theorem returnRead_colorRam (s : State) (v : Byte) : (s.returnRead v).colorRam = s.colorRam := rfl
@[simp] theorem returnRead_vbankPhi1 (s : State) (v : Byte) : (s.returnRead v).vbankPhi1 = s.vbankPhi1 := rfl
@[simp] theorem returnRead_vbankPhi2 (s : State) (v : Byte) : (s.returnRead v).vbankPhi2 = s.vbankPhi2 := rfl
@[simp] theorem returnRead_ramBaseOffset (s : State) (v : Byte) : (s.returnRead v).ramBaseOffset = s.ramBaseOffset := rfl
@[simp] theorem returnRead_irqStatus (s : State) (v : Byte) : (s.returnRead v).irqStatus = s.irqStatus := rfl
@[simp] theorem returnRead_rasterIrqLine (s : State) (v : Byte) : (s.returnRead v).rasterIrqLine = s.rasterIrqLine := rfl
@[simp] theorem returnRead_irqLine (s : State) (v : Byte) : (s.returnRead v).irqLine = s.irqLine := rfl
@[simp] theorem returnRead_spriteSpriteCollisions (s : State) (v : Byte) : (s.returnRead v).spriteSpriteCollisions = s.spriteSpriteCollisions := rfl
@[simp] theorem returnRead_spriteBackgroundCollisions (s : State) (v : Byte) : (s.returnRead v).spriteBackgroundCollisions = s.spriteBackgroundCollisions := rfl
@[simp] theorem returnRead_lastRead (s : State) (v : Byte) : (s.returnRead v).lastRead = v := rfl
@[simp] theorem returnRead_lightPen (s : State) (v : Byte) : (s.returnRead v).lightPen = s.lightPen := rfl
@[simp] theorem returnRead_sprites (s : State) (v : Byte) : (s.returnRead v).sprites = s.sprites := rfl
@[simp] theorem returnRead_newSpriteDmaMask (s : State) (v : Byte) : (s.returnRead v).newSpriteDmaMask = s.newSpriteDmaMask := rfl
@[simp] theorem returnRead_spriteDmaMask (s : State) (v : Byte) : (s.returnRead v).spriteDmaMask = s.spriteDmaMask := rfl
@[simp] theorem returnRead_changes (s : State) (v : Byte) : (s.returnRead v).changes = s.changes := rfl
@[simp] theorem returnRead_lineStart (s : State) (v : Byte) : (s.returnRead v).lineStart = s.lineStart := rfl
@[simp] theorem returnRead_cache (s : State) (v : Byte) : (s.returnRead v).cache = s.cache := rfl
@[simp] theorem returnRead_dirtyRange (s : State) (v : Byte) : (s.returnRead v).dirtyRange = s.dirtyRange := rfl
@[simp] theorem returnRead_borderTop (s : State) (v : Byte) : (s.returnRead v).borderTop = s.borderTop := rfl
@[simp] theorem returnRead_borderBottom (s : State) (v : Byte) : (s.returnRead v).borderBottom = s.borderBottom := rfl
@[simp] theorem returnRead_verticalBorder (s : State) (v : Byte) : (s.returnRead v).verticalBorder = s.verticalBorder := rfl
@[simp] theorem returnRead_ram (s : State) (v : Byte) : (s.returnRead v).ram = s.ram := rfl
@[simp] theorem returnRead_chargen (s : State) (v : Byte) : (s.returnRead v).chargen = s.chargen := rfl
@[simp] theorem returnRead_romh (s : State) (v : Byte) : (s.returnRead v).romh = s.romh := rfl
@[simp] theorem returnRead_memoryTime (s : State) (v : Byte) : (s.returnRead v).memoryTime = s.memoryTime := rfl
@[simp] theorem returnRead_ultimax (s : State) (v : Byte) : (s.returnRead v).ultimax = s.ultimax := rfl
@[simp] theorem returnRead_readData (s : State) (v : Byte) : (s.returnRead v).readData = v := rfl
@[simp] theorem returnRead_stolenCycles (s : State) (v : Byte) : (s.returnRead v).stolenCycles = s.stolenCycles := rfl
@[simp] theorem returnRead_lines (s : State) (v : Byte) : (s.returnRead v).lines = s.lines := rfl
@[simp] theorem returnRead_log (s : State) (v : Byte) : (s.returnRead v).log = s.log := rfl
@[simp] theorem returnRead_snapshotOut (s : State) (v : Byte) : (s.returnRead v).snapshotOut = s.snapshotOut := rfl
@[simp] theorem returnRead_lineCollisions (s : State) (v : Byte) : (s.returnRead v).lineCollisions = s.lineCollisions := rfl
@[simp] theorem returnRead_inbox (s : State) (v : Byte) : (s.returnRead v).inbox = s.inbox := rfl
@[simp] theorem returnRead_operands (s : State) (v : Byte) : (s.returnRead v).operands = s.operands := rfl
@[simp] theorem returnRead_draws (s : State) (v : Byte) : (s.returnRead v).draws = s.draws := rfl

/-! returnPeek -/

@[simp] theorem returnPeek_cfg (s : State) (v : Byte) : (s.returnPeek v).cfg = s.cfg := rfl
@[simp] theorem returnPeek_clk (s : State) (v : Byte) : (s.returnPeek v).clk = s.clk := rfl
@[simp] theorem returnPeek_clkOrigin (s : State) (v : Byte) : (s.returnPeek v).clkOrigin = s.clkOrigin := rfl
@[simp] theorem returnPeek_currentLine (s : State) (v : Byte) : (s.returnPeek v).currentLine = s.currentLine := rfl
@[simp] theorem returnPeek_fetchClk (s : State) (v : Byte) : (s.returnPeek v).fetchClk = s.fetchClk := rfl
@[simp] theorem returnPeek_drawClk (s : State) (v : Byte) : (s.returnPeek v).drawClk = s.drawClk := rfl
@[simp] theorem returnPeek_rasterIrqClk (s : State) (v : Byte) : (s.returnPeek v).rasterIrqClk = s.rasterIrqClk := rfl
@[simp] theorem returnPeek_fetchIdx (s : State) (v : Byte) : (s.returnPeek v).fetchIdx = s.fetchIdx := rfl
@[simp] theorem returnPeek_spriteFetchMsk (s : State) (v : Byte) : (s.returnPeek v).spriteFetchMsk = s.spriteFetchMsk := rfl
@[simp] theorem returnPeek_spriteFetchIdx (s : State) (v : Byte) : (s.returnPeek v).spriteFetchIdx = s.spriteFetchIdx := rfl
@[simp] theorem returnPeek_spriteFetchBase (s : State) (v : Byte) : (s.returnPeek v).spriteFetchBase = s.spriteFetchBase := rfl
@[simp] theorem returnPeek_regs (s : State) (v : Byte) : (s.returnPeek v).regs = s.regs := rfl
@[simp] theorem returnPeek_videoMode (s : State) (v : Byte) : (s.returnPeek v).videoMode = s.videoMode := rfl
@[simp] theorem returnPeek_idleState (s : State) (v : Byte) : (s.returnPeek v).idleState = s.idleState := rfl
@[simp] theorem returnPeek_badLine (s : State) (v : Byte) : (s.returnPeek v).badLine = s.badLine := rfl
@[simp] theorem returnPeek_allowBadLines (s : State) (v : Byte) : (s.returnPeek v).allowBadLines = s.allowBadLines := rfl
@[simp] theorem returnPeek_blank (s : State) (v : Byte) : (s.returnPeek v).blank = s.blank := rfl
@[simp] theorem returnPeek_forceDisplayState (s : State) (v : Byte) : (s.returnPeek v).forceDisplayState = s.forceDisplayState := rfl
@[simp] theorem returnPeek_ycounter (s : State) (v : Byte) : (s.returnPeek v).ycounter = s.ycounter := rfl
@[simp] theorem returnPeek_memCounter (s : State) (v : Byte) : (s.returnPeek v).memCounter = s.memCounter := rfl
@[simp] theorem returnPeek_memptr (s : State) (v : Byte) : (s.returnPeek v).memptr = s.memptr := rfl
@[simp] theorem returnPeek_memCounterInc (s : State) (v : Byte) : (s.returnPeek v).memCounterInc = s.memCounterInc := rfl
@[simp] theorem returnPeek_vbuf (s : State) (v : Byte) : (s.returnPeek v).vbuf = s.vbuf := rfl
@[simp] theorem returnPeek_cbuf (s : State) (v : Byte) : (s.returnPeek v).cbuf = s.cbuf := rfl
@[simp] theorem returnPeek_backgroundColorSource (s : State) (v : Byte) : (s.returnPeek v).backgroundColorSource = s.backgroundColorSource := rfl
@[simp] theorem returnPeek_idleData (s : State) (v : Byte) : (s.returnPeek v).idleData = s.idleData := rfl
@[simp] theorem returnPeek_colorRam (s : State) (v : Byte) : (s.returnPeek v).colorRam = s.colorRam := rfl
@[simp] theorem returnPeek_vbankPhi1 (s : State) (v : Byte) : (s.returnPeek v).vbankPhi1 = s.vbankPhi1 := rfl
@[simp] theorem returnPeek_vbankPhi2 (s : State) (v : Byte) : (s.returnPeek v).vbankPhi2 = s.vbankPhi2 := rfl
@[simp] theorem returnPeek_ramBaseOffset (s : State) (v : Byte) : (s.returnPeek v).ramBaseOffset = s.ramBaseOffset := rfl
@[simp] theorem returnPeek_irqStatus (s : State) (v : Byte) : (s.returnPeek v).irqStatus = s.irqStatus := rfl
@[simp] theorem returnPeek_rasterIrqLine (s : State) (v : Byte) : (s.returnPeek v).rasterIrqLine = s.rasterIrqLine := rfl
@[simp] theorem returnPeek_irqLine (s : State) (v : Byte) : (s.returnPeek v).irqLine = s.irqLine := rfl
@[simp] theorem returnPeek_spriteSpriteCollisions (s : State) (v : Byte) : (s.returnPeek v).spriteSpriteCollisions = s.spriteSpriteCollisions := rfl
@[simp] theorem returnPeek_spriteBackgroundCollisions (s : State) (v : Byte) : (s.returnPeek v).spriteBackgroundCollisions = s.spriteBackgroundCollisions := rfl
@[simp] theorem returnPeek_lastRead (s : State) (v : Byte) : (s.returnPeek v).lastRead = s.lastRead := rfl
@[simp] theorem returnPeek_lightPen (s : State) (v : Byte) : (s.returnPeek v).lightPen = s.lightPen := rfl
@[simp] theorem returnPeek_sprites (s : State) (v : Byte) : (s.returnPeek v).sprites = s.sprites := rfl
@[simp] theorem returnPeek_newSpriteDmaMask (s : State) (v : Byte) : (s.returnPeek v).newSpriteDmaMask = s.newSpriteDmaMask := rfl
@[simp] theorem returnPeek_spriteDmaMask (s : State) (v : Byte) : (s.returnPeek v).spriteDmaMask = s.spriteDmaMask := rfl
@[simp] theorem returnPeek_changes (s : State) (v : Byte) : (s.returnPeek v).changes = s.changes := rfl
@[simp] theorem returnPeek_lineStart (s : State) (v : Byte) : (s.returnPeek v).lineStart = s.lineStart := rfl
@[simp] theorem returnPeek_cache (s : State) (v : Byte) : (s.returnPeek v).cache = s.cache := rfl
@[simp] theorem returnPeek_dirtyRange (s : State) (v : Byte) : (s.returnPeek v).dirtyRange = s.dirtyRange := rfl
@[simp] theorem returnPeek_borderTop (s : State) (v : Byte) : (s.returnPeek v).borderTop = s.borderTop := rfl
@[simp] theorem returnPeek_borderBottom (s : State) (v : Byte) : (s.returnPeek v).borderBottom = s.borderBottom := rfl
@[simp] theorem returnPeek_verticalBorder (s : State) (v : Byte) : (s.returnPeek v).verticalBorder = s.verticalBorder := rfl
@[simp] theorem returnPeek_ram (s : State) (v : Byte) : (s.returnPeek v).ram = s.ram := rfl
@[simp] theorem returnPeek_chargen (s : State) (v : Byte) : (s.returnPeek v).chargen = s.chargen := rfl
@[simp] theorem returnPeek_romh (s : State) (v : Byte) : (s.returnPeek v).romh = s.romh := rfl
@[simp] theorem returnPeek_memoryTime (s : State) (v : Byte) : (s.returnPeek v).memoryTime = s.memoryTime := rfl
@[simp] theorem returnPeek_ultimax (s : State) (v : Byte) : (s.returnPeek v).ultimax = s.ultimax := rfl
@[simp] theorem returnPeek_readData (s : State) (v : Byte) : (s.returnPeek v).readData = v := rfl
@[simp] theorem returnPeek_stolenCycles (s : State) (v : Byte) : (s.returnPeek v).stolenCycles = s.stolenCycles := rfl
@[simp] theorem returnPeek_lines (s : State) (v : Byte) : (s.returnPeek v).lines = s.lines := rfl
@[simp] theorem returnPeek_log (s : State) (v : Byte) : (s.returnPeek v).log = s.log := rfl
@[simp] theorem returnPeek_snapshotOut (s : State) (v : Byte) : (s.returnPeek v).snapshotOut = s.snapshotOut := rfl
@[simp] theorem returnPeek_lineCollisions (s : State) (v : Byte) : (s.returnPeek v).lineCollisions = s.lineCollisions := rfl
@[simp] theorem returnPeek_inbox (s : State) (v : Byte) : (s.returnPeek v).inbox = s.inbox := rfl
@[simp] theorem returnPeek_operands (s : State) (v : Byte) : (s.returnPeek v).operands = s.operands := rfl
@[simp] theorem returnPeek_draws (s : State) (v : Byte) : (s.returnPeek v).draws = s.draws := rfl

/-! logMessage -/

@[simp] theorem logMessage_cfg (s : State) (m : LogMessage) : (s.logMessage m).cfg = s.cfg := rfl
@[simp] theorem logMessage_clk (s : State) (m : LogMessage) : (s.logMessage m).clk = s.clk := rfl
@[simp] theorem logMessage_clkOrigin (s : State) (m : LogMessage) : (s.logMessage m).clkOrigin = s.clkOrigin := rfl
@[simp] theorem logMessage_currentLine (s : State) (m : LogMessage) : (s.logMessage m).currentLine = s.currentLine := rfl
@[simp] theorem logMessage_fetchClk (s : State) (m : LogMessage) : (s.logMessage m).fetchClk = s.fetchClk := rfl
@[simp] theorem logMessage_drawClk (s : State) (m : LogMessage) : (s.logMessage m).drawClk = s.drawClk := rfl
@[simp] theorem logMessage_rasterIrqClk (s : State) (m : LogMessage) : (s.logMessage m).rasterIrqClk = s.rasterIrqClk := rfl
@[simp] theorem logMessage_fetchIdx (s : State) (m : LogMessage) : (s.logMessage m).fetchIdx = s.fetchIdx := rfl
@[simp] theorem logMessage_spriteFetchMsk (s : State) (m : LogMessage) : (s.logMessage m).spriteFetchMsk = s.spriteFetchMsk := rfl
@[simp] theorem logMessage_spriteFetchIdx (s : State) (m : LogMessage) : (s.logMessage m).spriteFetchIdx = s.spriteFetchIdx := rfl
@[simp] theorem logMessage_spriteFetchBase (s : State) (m : LogMessage) : (s.logMessage m).spriteFetchBase = s.spriteFetchBase := rfl
@[simp] theorem logMessage_regs (s : State) (m : LogMessage) : (s.logMessage m).regs = s.regs := rfl
@[simp] theorem logMessage_videoMode (s : State) (m : LogMessage) : (s.logMessage m).videoMode = s.videoMode := rfl
@[simp] theorem logMessage_idleState (s : State) (m : LogMessage) : (s.logMessage m).idleState = s.idleState := rfl
@[simp] theorem logMessage_badLine (s : State) (m : LogMessage) : (s.logMessage m).badLine = s.badLine := rfl
@[simp] theorem logMessage_allowBadLines (s : State) (m : LogMessage) : (s.logMessage m).allowBadLines = s.allowBadLines := rfl
@[simp] theorem logMessage_blank (s : State) (m : LogMessage) : (s.logMessage m).blank = s.blank := rfl
@[simp] theorem logMessage_forceDisplayState (s : State) (m : LogMessage) : (s.logMessage m).forceDisplayState = s.forceDisplayState := rfl
@[simp] theorem logMessage_ycounter (s : State) (m : LogMessage) : (s.logMessage m).ycounter = s.ycounter := rfl
@[simp] theorem logMessage_memCounter (s : State) (m : LogMessage) : (s.logMessage m).memCounter = s.memCounter := rfl
@[simp] theorem logMessage_memptr (s : State) (m : LogMessage) : (s.logMessage m).memptr = s.memptr := rfl
@[simp] theorem logMessage_memCounterInc (s : State) (m : LogMessage) : (s.logMessage m).memCounterInc = s.memCounterInc := rfl
@[simp] theorem logMessage_vbuf (s : State) (m : LogMessage) : (s.logMessage m).vbuf = s.vbuf := rfl
@[simp] theorem logMessage_cbuf (s : State) (m : LogMessage) : (s.logMessage m).cbuf = s.cbuf := rfl
@[simp] theorem logMessage_backgroundColorSource (s : State) (m : LogMessage) : (s.logMessage m).backgroundColorSource = s.backgroundColorSource := rfl
@[simp] theorem logMessage_idleData (s : State) (m : LogMessage) : (s.logMessage m).idleData = s.idleData := rfl
@[simp] theorem logMessage_colorRam (s : State) (m : LogMessage) : (s.logMessage m).colorRam = s.colorRam := rfl
@[simp] theorem logMessage_vbankPhi1 (s : State) (m : LogMessage) : (s.logMessage m).vbankPhi1 = s.vbankPhi1 := rfl
@[simp] theorem logMessage_vbankPhi2 (s : State) (m : LogMessage) : (s.logMessage m).vbankPhi2 = s.vbankPhi2 := rfl
@[simp] theorem logMessage_ramBaseOffset (s : State) (m : LogMessage) : (s.logMessage m).ramBaseOffset = s.ramBaseOffset := rfl
@[simp] theorem logMessage_irqStatus (s : State) (m : LogMessage) : (s.logMessage m).irqStatus = s.irqStatus := rfl
@[simp] theorem logMessage_rasterIrqLine (s : State) (m : LogMessage) : (s.logMessage m).rasterIrqLine = s.rasterIrqLine := rfl
@[simp] theorem logMessage_irqLine (s : State) (m : LogMessage) : (s.logMessage m).irqLine = s.irqLine := rfl
@[simp] theorem logMessage_spriteSpriteCollisions (s : State) (m : LogMessage) : (s.logMessage m).spriteSpriteCollisions = s.spriteSpriteCollisions := rfl
@[simp] theorem logMessage_spriteBackgroundCollisions (s : State) (m : LogMessage) : (s.logMessage m).spriteBackgroundCollisions = s.spriteBackgroundCollisions := rfl
@[simp] theorem logMessage_lastRead (s : State) (m : LogMessage) : (s.logMessage m).lastRead = s.lastRead := rfl
@[simp] theorem logMessage_lightPen (s : State) (m : LogMessage) : (s.logMessage m).lightPen = s.lightPen := rfl
@[simp] theorem logMessage_sprites (s : State) (m : LogMessage) : (s.logMessage m).sprites = s.sprites := rfl
@[simp] theorem logMessage_newSpriteDmaMask (s : State) (m : LogMessage) : (s.logMessage m).newSpriteDmaMask = s.newSpriteDmaMask := rfl
@[simp] theorem logMessage_spriteDmaMask (s : State) (m : LogMessage) : (s.logMessage m).spriteDmaMask = s.spriteDmaMask := rfl
@[simp] theorem logMessage_changes (s : State) (m : LogMessage) : (s.logMessage m).changes = s.changes := rfl
@[simp] theorem logMessage_lineStart (s : State) (m : LogMessage) : (s.logMessage m).lineStart = s.lineStart := rfl
@[simp] theorem logMessage_cache (s : State) (m : LogMessage) : (s.logMessage m).cache = s.cache := rfl
@[simp] theorem logMessage_dirtyRange (s : State) (m : LogMessage) : (s.logMessage m).dirtyRange = s.dirtyRange := rfl
@[simp] theorem logMessage_borderTop (s : State) (m : LogMessage) : (s.logMessage m).borderTop = s.borderTop := rfl
@[simp] theorem logMessage_borderBottom (s : State) (m : LogMessage) : (s.logMessage m).borderBottom = s.borderBottom := rfl
@[simp] theorem logMessage_verticalBorder (s : State) (m : LogMessage) : (s.logMessage m).verticalBorder = s.verticalBorder := rfl
@[simp] theorem logMessage_ram (s : State) (m : LogMessage) : (s.logMessage m).ram = s.ram := rfl
@[simp] theorem logMessage_chargen (s : State) (m : LogMessage) : (s.logMessage m).chargen = s.chargen := rfl
@[simp] theorem logMessage_romh (s : State) (m : LogMessage) : (s.logMessage m).romh = s.romh := rfl
@[simp] theorem logMessage_memoryTime (s : State) (m : LogMessage) : (s.logMessage m).memoryTime = s.memoryTime := rfl
@[simp] theorem logMessage_ultimax (s : State) (m : LogMessage) : (s.logMessage m).ultimax = s.ultimax := rfl
@[simp] theorem logMessage_readData (s : State) (m : LogMessage) : (s.logMessage m).readData = s.readData := rfl
@[simp] theorem logMessage_stolenCycles (s : State) (m : LogMessage) : (s.logMessage m).stolenCycles = s.stolenCycles := rfl
@[simp] theorem logMessage_lines (s : State) (m : LogMessage) : (s.logMessage m).lines = s.lines := rfl
@[simp] theorem logMessage_log (s : State) (m : LogMessage) : (s.logMessage m).log = s.log ++ [m] := rfl
@[simp] theorem logMessage_snapshotOut (s : State) (m : LogMessage) : (s.logMessage m).snapshotOut = s.snapshotOut := rfl
@[simp] theorem logMessage_lineCollisions (s : State) (m : LogMessage) : (s.logMessage m).lineCollisions = s.lineCollisions := rfl
@[simp] theorem logMessage_inbox (s : State) (m : LogMessage) : (s.logMessage m).inbox = s.inbox := rfl
@[simp] theorem logMessage_operands (s : State) (m : LogMessage) : (s.logMessage m).operands = s.operands := rfl
@[simp] theorem logMessage_draws (s : State) (m : LogMessage) : (s.logMessage m).draws = s.draws := rfl

/-! storeRam -/

@[simp] theorem storeRam_cfg (s : State) (a : Addr) (v : Byte) : (s.storeRam a v).cfg = s.cfg := rfl
@[simp] theorem storeRam_clk (s : State) (a : Addr) (v : Byte) : (s.storeRam a v).clk = s.clk := rfl
@[simp] theorem storeRam_clkOrigin (s : State) (a : Addr) (v : Byte) : (s.storeRam a v).clkOrigin = s.clkOrigin := rfl
@[simp] theorem storeRam_currentLine (s : State) (a : Addr) (v : Byte) : (s.storeRam a v).currentLine = s.currentLine := rfl
@[simp] theorem storeRam_fetchClk (s : State) (a : Addr) (v : Byte) : (s.storeRam a v).fetchClk = s.fetchClk := rfl
@[simp] theorem storeRam_drawClk (s : State) (a : Addr) (v : Byte) : (s.storeRam a v).drawClk = s.drawClk := rfl
@[simp] theorem storeRam_rasterIrqClk (s : State) (a : Addr) (v : Byte) : (s.storeRam a v).rasterIrqClk = s.rasterIrqClk := rfl
@[simp] theorem storeRam_fetchIdx (s : State) (a : Addr) (v : Byte) : (s.storeRam a v).fetchIdx = s.fetchIdx := rfl
@[simp] theorem storeRam_spriteFetchMsk (s : State) (a : Addr) (v : Byte) : (s.storeRam a v).spriteFetchMsk = s.spriteFetchMsk := rfl
@[simp] theorem storeRam_spriteFetchIdx (s : State) (a : Addr) (v : Byte) : (s.storeRam a v).spriteFetchIdx = s.spriteFetchIdx := rfl
@[simp] theorem storeRam_spriteFetchBase (s : State) (a : Addr) (v : Byte) : (s.storeRam a v).spriteFetchBase = s.spriteFetchBase := rfl
@[simp] theorem storeRam_regs (s : State) (a : Addr) (v : Byte) : (s.storeRam a v).regs = s.regs := rfl
@[simp] theorem storeRam_videoMode (s : State) (a : Addr) (v : Byte) : (s.storeRam a v).videoMode = s.videoMode := rfl
@[simp] theorem storeRam_idleState (s : State) (a : Addr) (v : Byte) : (s.storeRam a v).idleState = s.idleState := rfl
@[simp] theorem storeRam_badLine (s : State) (a : Addr) (v : Byte) : (s.storeRam a v).badLine = s.badLine := rfl
@[simp] theorem storeRam_allowBadLines (s : State) (a : Addr) (v : Byte) : (s.storeRam a v).allowBadLines = s.allowBadLines := rfl
@[simp] theorem storeRam_blank (s : State) (a : Addr) (v : Byte) : (s.storeRam a v).blank = s.blank := rfl
@[simp] theorem storeRam_forceDisplayState (s : State) (a : Addr) (v : Byte) : (s.storeRam a v).forceDisplayState = s.forceDisplayState := rfl
@[simp] theorem storeRam_ycounter (s : State) (a : Addr) (v : Byte) : (s.storeRam a v).ycounter = s.ycounter := rfl
@[simp] theorem storeRam_memCounter (s : State) (a : Addr) (v : Byte) : (s.storeRam a v).memCounter = s.memCounter := rfl
@[simp] theorem storeRam_memptr (s : State) (a : Addr) (v : Byte) : (s.storeRam a v).memptr = s.memptr := rfl
@[simp] theorem storeRam_memCounterInc (s : State) (a : Addr) (v : Byte) : (s.storeRam a v).memCounterInc = s.memCounterInc := rfl
@[simp] theorem storeRam_vbuf (s : State) (a : Addr) (v : Byte) : (s.storeRam a v).vbuf = s.vbuf := rfl
@[simp] theorem storeRam_cbuf (s : State) (a : Addr) (v : Byte) : (s.storeRam a v).cbuf = s.cbuf := rfl
@[simp] theorem storeRam_backgroundColorSource (s : State) (a : Addr) (v : Byte) : (s.storeRam a v).backgroundColorSource = s.backgroundColorSource := rfl
@[simp] theorem storeRam_idleData (s : State) (a : Addr) (v : Byte) : (s.storeRam a v).idleData = s.idleData := rfl
@[simp] theorem storeRam_colorRam (s : State) (a : Addr) (v : Byte) : (s.storeRam a v).colorRam = s.colorRam := rfl
@[simp] theorem storeRam_vbankPhi1 (s : State) (a : Addr) (v : Byte) : (s.storeRam a v).vbankPhi1 = s.vbankPhi1 := rfl
@[simp] theorem storeRam_vbankPhi2 (s : State) (a : Addr) (v : Byte) : (s.storeRam a v).vbankPhi2 = s.vbankPhi2 := rfl
@[simp] theorem storeRam_ramBaseOffset (s : State) (a : Addr) (v : Byte) : (s.storeRam a v).ramBaseOffset = s.ramBaseOffset := rfl
@[simp] theorem storeRam_irqStatus (s : State) (a : Addr) (v : Byte) : (s.storeRam a v).irqStatus = s.irqStatus := rfl
@[simp] theorem storeRam_rasterIrqLine (s : State) (a : Addr) (v : Byte) : (s.storeRam a v).rasterIrqLine = s.rasterIrqLine := rfl
@[simp] theorem storeRam_irqLine (s : State) (a : Addr) (v : Byte) : (s.storeRam a v).irqLine = s.irqLine := rfl
@[simp] theorem storeRam_spriteSpriteCollisions (s : State) (a : Addr) (v : Byte) : (s.storeRam a v).spriteSpriteCollisions = s.spriteSpriteCollisions := rfl
@[simp] theorem storeRam_spriteBackgroundCollisions (s : State) (a : Addr) (v : Byte) : (s.storeRam a v).spriteBackgroundCollisions = s.spriteBackgroundCollisions := rfl
@[simp] theorem storeRam_lastRead (s : State) (a : Addr) (v : Byte) : (s.storeRam a v).lastRead = s.lastRead := rfl
@[simp] theorem storeRam_lightPen (s : State) (a : Addr) (v : Byte) : (s.storeRam a v).lightPen = s.lightPen := rfl
@[simp] theorem storeRam_sprites (s : State) (a : Addr) (v : Byte) : (s.storeRam a v).sprites = s.sprites := rfl
@[simp] theorem storeRam_newSpriteDmaMask (s : State) (a : Addr) (v : Byte) : (s.storeRam a v).newSpriteDmaMask = s.newSpriteDmaMask := rfl
@[simp] theorem storeRam_spriteDmaMask (s : State) (a : Addr) (v : Byte) : (s.storeRam a v).spriteDmaMask = s.spriteDmaMask := rfl
@[simp] theorem storeRam_changes (s : State) (a : Addr) (v : Byte) : (s.storeRam a v).changes = s.changes := rfl
@[simp] theorem storeRam_lineStart (s : State) (a : Addr) (v : Byte) : (s.storeRam a v).lineStart = s.lineStart := rfl
@[simp] theorem storeRam_cache (s : State) (a : Addr) (v : Byte) : (s.storeRam a v).cache = s.cache := rfl
@[simp] theorem storeRam_dirtyRange (s : State) (a : Addr) (v : Byte) : (s.storeRam a v).dirtyRange = s.dirtyRange := rfl
@[simp] theorem storeRam_borderTop (s : State) (a : Addr) (v : Byte) : (s.storeRam a v).borderTop = s.borderTop := rfl
@[simp] theorem storeRam_borderBottom (s : State) (a : Addr) (v : Byte) : (s.storeRam a v).borderBottom = s.borderBottom := rfl
@[simp] theorem storeRam_verticalBorder (s : State) (a : Addr) (v : Byte) : (s.storeRam a v).verticalBorder = s.verticalBorder := rfl
@[simp] theorem storeRam_ram (s : State) (a : Addr) (v : Byte) : (s.storeRam a v).ram = Memory.store s.ram (s.ramAddress a) v := rfl
@[simp] theorem storeRam_chargen (s : State) (a : Addr) (v : Byte) : (s.storeRam a v).chargen = s.chargen := rfl
@[simp] theorem storeRam_romh (s : State) (a : Addr) (v : Byte) : (s.storeRam a v).romh = s.romh := rfl
@[simp] theorem storeRam_memoryTime (s : State) (a : Addr) (v : Byte) : (s.storeRam a v).memoryTime = s.memoryTime := rfl
@[simp] theorem storeRam_ultimax (s : State) (a : Addr) (v : Byte) : (s.storeRam a v).ultimax = s.ultimax := rfl
@[simp] theorem storeRam_readData (s : State) (a : Addr) (v : Byte) : (s.storeRam a v).readData = s.readData := rfl
@[simp] theorem storeRam_stolenCycles (s : State) (a : Addr) (v : Byte) : (s.storeRam a v).stolenCycles = s.stolenCycles := rfl
@[simp] theorem storeRam_lines (s : State) (a : Addr) (v : Byte) : (s.storeRam a v).lines = s.lines := rfl
@[simp] theorem storeRam_log (s : State) (a : Addr) (v : Byte) : (s.storeRam a v).log = s.log := rfl
@[simp] theorem storeRam_snapshotOut (s : State) (a : Addr) (v : Byte) : (s.storeRam a v).snapshotOut = s.snapshotOut := rfl
@[simp] theorem storeRam_lineCollisions (s : State) (a : Addr) (v : Byte) : (s.storeRam a v).lineCollisions = s.lineCollisions := rfl
@[simp] theorem storeRam_inbox (s : State) (a : Addr) (v : Byte) : (s.storeRam a v).inbox = s.inbox := rfl
@[simp] theorem storeRam_operands (s : State) (a : Addr) (v : Byte) : (s.storeRam a v).operands = s.operands := rfl
@[simp] theorem storeRam_draws (s : State) (a : Addr) (v : Byte) : (s.storeRam a v).draws = s.draws := rfl

/-! storeColor -/

@[simp] theorem storeColor_cfg (s : State) (a : BitVec 10) (v : Byte) : (s.storeColor a v).cfg = s.cfg := rfl
@[simp] theorem storeColor_clk (s : State) (a : BitVec 10) (v : Byte) : (s.storeColor a v).clk = s.clk := rfl
@[simp] theorem storeColor_clkOrigin (s : State) (a : BitVec 10) (v : Byte) : (s.storeColor a v).clkOrigin = s.clkOrigin := rfl
@[simp] theorem storeColor_currentLine (s : State) (a : BitVec 10) (v : Byte) : (s.storeColor a v).currentLine = s.currentLine := rfl
@[simp] theorem storeColor_fetchClk (s : State) (a : BitVec 10) (v : Byte) : (s.storeColor a v).fetchClk = s.fetchClk := rfl
@[simp] theorem storeColor_drawClk (s : State) (a : BitVec 10) (v : Byte) : (s.storeColor a v).drawClk = s.drawClk := rfl
@[simp] theorem storeColor_rasterIrqClk (s : State) (a : BitVec 10) (v : Byte) : (s.storeColor a v).rasterIrqClk = s.rasterIrqClk := rfl
@[simp] theorem storeColor_fetchIdx (s : State) (a : BitVec 10) (v : Byte) : (s.storeColor a v).fetchIdx = s.fetchIdx := rfl
@[simp] theorem storeColor_spriteFetchMsk (s : State) (a : BitVec 10) (v : Byte) : (s.storeColor a v).spriteFetchMsk = s.spriteFetchMsk := rfl
@[simp] theorem storeColor_spriteFetchIdx (s : State) (a : BitVec 10) (v : Byte) : (s.storeColor a v).spriteFetchIdx = s.spriteFetchIdx := rfl
@[simp] theorem storeColor_spriteFetchBase (s : State) (a : BitVec 10) (v : Byte) : (s.storeColor a v).spriteFetchBase = s.spriteFetchBase := rfl
@[simp] theorem storeColor_regs (s : State) (a : BitVec 10) (v : Byte) : (s.storeColor a v).regs = s.regs := rfl
@[simp] theorem storeColor_videoMode (s : State) (a : BitVec 10) (v : Byte) : (s.storeColor a v).videoMode = s.videoMode := rfl
@[simp] theorem storeColor_idleState (s : State) (a : BitVec 10) (v : Byte) : (s.storeColor a v).idleState = s.idleState := rfl
@[simp] theorem storeColor_badLine (s : State) (a : BitVec 10) (v : Byte) : (s.storeColor a v).badLine = s.badLine := rfl
@[simp] theorem storeColor_allowBadLines (s : State) (a : BitVec 10) (v : Byte) : (s.storeColor a v).allowBadLines = s.allowBadLines := rfl
@[simp] theorem storeColor_blank (s : State) (a : BitVec 10) (v : Byte) : (s.storeColor a v).blank = s.blank := rfl
@[simp] theorem storeColor_forceDisplayState (s : State) (a : BitVec 10) (v : Byte) : (s.storeColor a v).forceDisplayState = s.forceDisplayState := rfl
@[simp] theorem storeColor_ycounter (s : State) (a : BitVec 10) (v : Byte) : (s.storeColor a v).ycounter = s.ycounter := rfl
@[simp] theorem storeColor_memCounter (s : State) (a : BitVec 10) (v : Byte) : (s.storeColor a v).memCounter = s.memCounter := rfl
@[simp] theorem storeColor_memptr (s : State) (a : BitVec 10) (v : Byte) : (s.storeColor a v).memptr = s.memptr := rfl
@[simp] theorem storeColor_memCounterInc (s : State) (a : BitVec 10) (v : Byte) : (s.storeColor a v).memCounterInc = s.memCounterInc := rfl
@[simp] theorem storeColor_vbuf (s : State) (a : BitVec 10) (v : Byte) : (s.storeColor a v).vbuf = s.vbuf := rfl
@[simp] theorem storeColor_cbuf (s : State) (a : BitVec 10) (v : Byte) : (s.storeColor a v).cbuf = s.cbuf := rfl
@[simp] theorem storeColor_backgroundColorSource (s : State) (a : BitVec 10) (v : Byte) : (s.storeColor a v).backgroundColorSource = s.backgroundColorSource := rfl
@[simp] theorem storeColor_idleData (s : State) (a : BitVec 10) (v : Byte) : (s.storeColor a v).idleData = s.idleData := rfl
@[simp] theorem storeColor_colorRam (s : State) (a : BitVec 10) (v : Byte) : (s.storeColor a v).colorRam = Memory.store s.colorRam a.toNat v := rfl
@[simp] theorem storeColor_vbankPhi1 (s : State) (a : BitVec 10) (v : Byte) : (s.storeColor a v).vbankPhi1 = s.vbankPhi1 := rfl
@[simp] theorem storeColor_vbankPhi2 (s : State) (a : BitVec 10) (v : Byte) : (s.storeColor a v).vbankPhi2 = s.vbankPhi2 := rfl
@[simp] theorem storeColor_ramBaseOffset (s : State) (a : BitVec 10) (v : Byte) : (s.storeColor a v).ramBaseOffset = s.ramBaseOffset := rfl
@[simp] theorem storeColor_irqStatus (s : State) (a : BitVec 10) (v : Byte) : (s.storeColor a v).irqStatus = s.irqStatus := rfl
@[simp] theorem storeColor_rasterIrqLine (s : State) (a : BitVec 10) (v : Byte) : (s.storeColor a v).rasterIrqLine = s.rasterIrqLine := rfl
@[simp] theorem storeColor_irqLine (s : State) (a : BitVec 10) (v : Byte) : (s.storeColor a v).irqLine = s.irqLine := rfl
@[simp] theorem storeColor_spriteSpriteCollisions (s : State) (a : BitVec 10) (v : Byte) : (s.storeColor a v).spriteSpriteCollisions = s.spriteSpriteCollisions := rfl
@[simp] theorem storeColor_spriteBackgroundCollisions (s : State) (a : BitVec 10) (v : Byte) : (s.storeColor a v).spriteBackgroundCollisions = s.spriteBackgroundCollisions := rfl
@[simp] theorem storeColor_lastRead (s : State) (a : BitVec 10) (v : Byte) : (s.storeColor a v).lastRead = s.lastRead := rfl
@[simp] theorem storeColor_lightPen (s : State) (a : BitVec 10) (v : Byte) : (s.storeColor a v).lightPen = s.lightPen := rfl
@[simp] theorem storeColor_sprites (s : State) (a : BitVec 10) (v : Byte) : (s.storeColor a v).sprites = s.sprites := rfl
@[simp] theorem storeColor_newSpriteDmaMask (s : State) (a : BitVec 10) (v : Byte) : (s.storeColor a v).newSpriteDmaMask = s.newSpriteDmaMask := rfl
@[simp] theorem storeColor_spriteDmaMask (s : State) (a : BitVec 10) (v : Byte) : (s.storeColor a v).spriteDmaMask = s.spriteDmaMask := rfl
@[simp] theorem storeColor_changes (s : State) (a : BitVec 10) (v : Byte) : (s.storeColor a v).changes = s.changes := rfl
@[simp] theorem storeColor_lineStart (s : State) (a : BitVec 10) (v : Byte) : (s.storeColor a v).lineStart = s.lineStart := rfl
@[simp] theorem storeColor_cache (s : State) (a : BitVec 10) (v : Byte) : (s.storeColor a v).cache = s.cache := rfl
@[simp] theorem storeColor_dirtyRange (s : State) (a : BitVec 10) (v : Byte) : (s.storeColor a v).dirtyRange = s.dirtyRange := rfl
@[simp] theorem storeColor_borderTop (s : State) (a : BitVec 10) (v : Byte) : (s.storeColor a v).borderTop = s.borderTop := rfl
@[simp] theorem storeColor_borderBottom (s : State) (a : BitVec 10) (v : Byte) : (s.storeColor a v).borderBottom = s.borderBottom := rfl
@[simp] theorem storeColor_verticalBorder (s : State) (a : BitVec 10) (v : Byte) : (s.storeColor a v).verticalBorder = s.verticalBorder := rfl
@[simp] theorem storeColor_ram (s : State) (a : BitVec 10) (v : Byte) : (s.storeColor a v).ram = s.ram := rfl
@[simp] theorem storeColor_chargen (s : State) (a : BitVec 10) (v : Byte) : (s.storeColor a v).chargen = s.chargen := rfl
@[simp] theorem storeColor_romh (s : State) (a : BitVec 10) (v : Byte) : (s.storeColor a v).romh = s.romh := rfl
@[simp] theorem storeColor_memoryTime (s : State) (a : BitVec 10) (v : Byte) : (s.storeColor a v).memoryTime = s.memoryTime := rfl
@[simp] theorem storeColor_ultimax (s : State) (a : BitVec 10) (v : Byte) : (s.storeColor a v).ultimax = s.ultimax := rfl
@[simp] theorem storeColor_readData (s : State) (a : BitVec 10) (v : Byte) : (s.storeColor a v).readData = s.readData := rfl
@[simp] theorem storeColor_stolenCycles (s : State) (a : BitVec 10) (v : Byte) : (s.storeColor a v).stolenCycles = s.stolenCycles := rfl
@[simp] theorem storeColor_lines (s : State) (a : BitVec 10) (v : Byte) : (s.storeColor a v).lines = s.lines := rfl
@[simp] theorem storeColor_log (s : State) (a : BitVec 10) (v : Byte) : (s.storeColor a v).log = s.log := rfl
@[simp] theorem storeColor_snapshotOut (s : State) (a : BitVec 10) (v : Byte) : (s.storeColor a v).snapshotOut = s.snapshotOut := rfl
@[simp] theorem storeColor_lineCollisions (s : State) (a : BitVec 10) (v : Byte) : (s.storeColor a v).lineCollisions = s.lineCollisions := rfl
@[simp] theorem storeColor_inbox (s : State) (a : BitVec 10) (v : Byte) : (s.storeColor a v).inbox = s.inbox := rfl
@[simp] theorem storeColor_operands (s : State) (a : BitVec 10) (v : Byte) : (s.storeColor a v).operands = s.operands := rfl
@[simp] theorem storeColor_draws (s : State) (a : BitVec 10) (v : Byte) : (s.storeColor a v).draws = s.draws := rfl

/-! changeMemory -/

@[simp] theorem changeMemory_cfg (s : State) (l : List MemoryChange) : (s.changeMemory l).cfg = s.cfg := rfl
@[simp] theorem changeMemory_clk (s : State) (l : List MemoryChange) : (s.changeMemory l).clk = s.clk := rfl
@[simp] theorem changeMemory_clkOrigin (s : State) (l : List MemoryChange) : (s.changeMemory l).clkOrigin = s.clkOrigin := rfl
@[simp] theorem changeMemory_currentLine (s : State) (l : List MemoryChange) : (s.changeMemory l).currentLine = s.currentLine := rfl
@[simp] theorem changeMemory_fetchClk (s : State) (l : List MemoryChange) : (s.changeMemory l).fetchClk = s.fetchClk := rfl
@[simp] theorem changeMemory_drawClk (s : State) (l : List MemoryChange) : (s.changeMemory l).drawClk = s.drawClk := rfl
@[simp] theorem changeMemory_rasterIrqClk (s : State) (l : List MemoryChange) : (s.changeMemory l).rasterIrqClk = s.rasterIrqClk := rfl
@[simp] theorem changeMemory_fetchIdx (s : State) (l : List MemoryChange) : (s.changeMemory l).fetchIdx = s.fetchIdx := rfl
@[simp] theorem changeMemory_spriteFetchMsk (s : State) (l : List MemoryChange) : (s.changeMemory l).spriteFetchMsk = s.spriteFetchMsk := rfl
@[simp] theorem changeMemory_spriteFetchIdx (s : State) (l : List MemoryChange) : (s.changeMemory l).spriteFetchIdx = s.spriteFetchIdx := rfl
@[simp] theorem changeMemory_spriteFetchBase (s : State) (l : List MemoryChange) : (s.changeMemory l).spriteFetchBase = s.spriteFetchBase := rfl
@[simp] theorem changeMemory_regs (s : State) (l : List MemoryChange) : (s.changeMemory l).regs = s.regs := rfl
@[simp] theorem changeMemory_videoMode (s : State) (l : List MemoryChange) : (s.changeMemory l).videoMode = s.videoMode := rfl
@[simp] theorem changeMemory_idleState (s : State) (l : List MemoryChange) : (s.changeMemory l).idleState = s.idleState := rfl
@[simp] theorem changeMemory_badLine (s : State) (l : List MemoryChange) : (s.changeMemory l).badLine = s.badLine := rfl
@[simp] theorem changeMemory_allowBadLines (s : State) (l : List MemoryChange) : (s.changeMemory l).allowBadLines = s.allowBadLines := rfl
@[simp] theorem changeMemory_blank (s : State) (l : List MemoryChange) : (s.changeMemory l).blank = s.blank := rfl
@[simp] theorem changeMemory_forceDisplayState (s : State) (l : List MemoryChange) : (s.changeMemory l).forceDisplayState = s.forceDisplayState := rfl
@[simp] theorem changeMemory_ycounter (s : State) (l : List MemoryChange) : (s.changeMemory l).ycounter = s.ycounter := rfl
@[simp] theorem changeMemory_memCounter (s : State) (l : List MemoryChange) : (s.changeMemory l).memCounter = s.memCounter := rfl
@[simp] theorem changeMemory_memptr (s : State) (l : List MemoryChange) : (s.changeMemory l).memptr = s.memptr := rfl
@[simp] theorem changeMemory_memCounterInc (s : State) (l : List MemoryChange) : (s.changeMemory l).memCounterInc = s.memCounterInc := rfl
@[simp] theorem changeMemory_vbuf (s : State) (l : List MemoryChange) : (s.changeMemory l).vbuf = s.vbuf := rfl
@[simp] theorem changeMemory_cbuf (s : State) (l : List MemoryChange) : (s.changeMemory l).cbuf = s.cbuf := rfl
@[simp] theorem changeMemory_backgroundColorSource (s : State) (l : List MemoryChange) : (s.changeMemory l).backgroundColorSource = s.backgroundColorSource := rfl
@[simp] theorem changeMemory_idleData (s : State) (l : List MemoryChange) : (s.changeMemory l).idleData = s.idleData := rfl
@[simp] theorem changeMemory_colorRam (s : State) (l : List MemoryChange) : (s.changeMemory l).colorRam = s.colorRam := rfl
@[simp] theorem changeMemory_vbankPhi1 (s : State) (l : List MemoryChange) : (s.changeMemory l).vbankPhi1 = s.vbankPhi1 := rfl
@[simp] theorem changeMemory_vbankPhi2 (s : State) (l : List MemoryChange) : (s.changeMemory l).vbankPhi2 = s.vbankPhi2 := rfl
@[simp] theorem changeMemory_ramBaseOffset (s : State) (l : List MemoryChange) : (s.changeMemory l).ramBaseOffset = s.ramBaseOffset := rfl
@[simp] theorem changeMemory_irqStatus (s : State) (l : List MemoryChange) : (s.changeMemory l).irqStatus = s.irqStatus := rfl
@[simp] theorem changeMemory_rasterIrqLine (s : State) (l : List MemoryChange) : (s.changeMemory l).rasterIrqLine = s.rasterIrqLine := rfl
@[simp] theorem changeMemory_irqLine (s : State) (l : List MemoryChange) : (s.changeMemory l).irqLine = s.irqLine := rfl
@[simp] theorem changeMemory_spriteSpriteCollisions (s : State) (l : List MemoryChange) : (s.changeMemory l).spriteSpriteCollisions = s.spriteSpriteCollisions := rfl
@[simp] theorem changeMemory_spriteBackgroundCollisions (s : State) (l : List MemoryChange) : (s.changeMemory l).spriteBackgroundCollisions = s.spriteBackgroundCollisions := rfl
@[simp] theorem changeMemory_lastRead (s : State) (l : List MemoryChange) : (s.changeMemory l).lastRead = s.lastRead := rfl
@[simp] theorem changeMemory_lightPen (s : State) (l : List MemoryChange) : (s.changeMemory l).lightPen = s.lightPen := rfl
@[simp] theorem changeMemory_sprites (s : State) (l : List MemoryChange) : (s.changeMemory l).sprites = s.sprites := rfl
@[simp] theorem changeMemory_newSpriteDmaMask (s : State) (l : List MemoryChange) : (s.changeMemory l).newSpriteDmaMask = s.newSpriteDmaMask := rfl
@[simp] theorem changeMemory_spriteDmaMask (s : State) (l : List MemoryChange) : (s.changeMemory l).spriteDmaMask = s.spriteDmaMask := rfl
@[simp] theorem changeMemory_changes (s : State) (l : List MemoryChange) : (s.changeMemory l).changes = s.changes := rfl
@[simp] theorem changeMemory_lineStart (s : State) (l : List MemoryChange) : (s.changeMemory l).lineStart = s.lineStart := rfl
@[simp] theorem changeMemory_cache (s : State) (l : List MemoryChange) : (s.changeMemory l).cache = s.cache := rfl
@[simp] theorem changeMemory_dirtyRange (s : State) (l : List MemoryChange) : (s.changeMemory l).dirtyRange = s.dirtyRange := rfl
@[simp] theorem changeMemory_borderTop (s : State) (l : List MemoryChange) : (s.changeMemory l).borderTop = s.borderTop := rfl
@[simp] theorem changeMemory_borderBottom (s : State) (l : List MemoryChange) : (s.changeMemory l).borderBottom = s.borderBottom := rfl
@[simp] theorem changeMemory_verticalBorder (s : State) (l : List MemoryChange) : (s.changeMemory l).verticalBorder = s.verticalBorder := rfl
@[simp] theorem changeMemory_ram (s : State) (l : List MemoryChange) : (s.changeMemory l).ram = l.foldl MemoryChange.onRam s.ram := rfl
@[simp] theorem changeMemory_chargen (s : State) (l : List MemoryChange) : (s.changeMemory l).chargen = l.foldl MemoryChange.onChargen s.chargen := rfl
@[simp] theorem changeMemory_romh (s : State) (l : List MemoryChange) : (s.changeMemory l).romh = l.foldl MemoryChange.onRomh s.romh := rfl
@[simp] theorem changeMemory_memoryTime (s : State) (l : List MemoryChange) : (s.changeMemory l).memoryTime = s.memoryTime + 1 := rfl
@[simp] theorem changeMemory_ultimax (s : State) (l : List MemoryChange) : (s.changeMemory l).ultimax = s.ultimax := rfl
@[simp] theorem changeMemory_readData (s : State) (l : List MemoryChange) : (s.changeMemory l).readData = s.readData := rfl
@[simp] theorem changeMemory_stolenCycles (s : State) (l : List MemoryChange) : (s.changeMemory l).stolenCycles = s.stolenCycles := rfl
@[simp] theorem changeMemory_lines (s : State) (l : List MemoryChange) : (s.changeMemory l).lines = s.lines := rfl
@[simp] theorem changeMemory_log (s : State) (l : List MemoryChange) : (s.changeMemory l).log = s.log := rfl
@[simp] theorem changeMemory_snapshotOut (s : State) (l : List MemoryChange) : (s.changeMemory l).snapshotOut = s.snapshotOut := rfl
@[simp] theorem changeMemory_lineCollisions (s : State) (l : List MemoryChange) : (s.changeMemory l).lineCollisions = s.lineCollisions := rfl
@[simp] theorem changeMemory_inbox (s : State) (l : List MemoryChange) : (s.changeMemory l).inbox = s.inbox := rfl
@[simp] theorem changeMemory_operands (s : State) (l : List MemoryChange) : (s.changeMemory l).operands = s.operands := rfl
@[simp] theorem changeMemory_draws (s : State) (l : List MemoryChange) : (s.changeMemory l).draws = s.draws := rfl

/-! accept -/

@[simp] theorem accept_cfg (s : State) (r : Request) (rest : List Request) : (s.accept r rest).cfg = s.cfg := rfl
@[simp] theorem accept_clk (s : State) (r : Request) (rest : List Request) : (s.accept r rest).clk = s.clk + r.cycles := rfl
@[simp] theorem accept_clkOrigin (s : State) (r : Request) (rest : List Request) : (s.accept r rest).clkOrigin = s.clkOrigin := rfl
@[simp] theorem accept_currentLine (s : State) (r : Request) (rest : List Request) : (s.accept r rest).currentLine = s.currentLine := rfl
@[simp] theorem accept_fetchClk (s : State) (r : Request) (rest : List Request) : (s.accept r rest).fetchClk = s.fetchClk := rfl
@[simp] theorem accept_drawClk (s : State) (r : Request) (rest : List Request) : (s.accept r rest).drawClk = s.drawClk := rfl
@[simp] theorem accept_rasterIrqClk (s : State) (r : Request) (rest : List Request) : (s.accept r rest).rasterIrqClk = s.rasterIrqClk := rfl
@[simp] theorem accept_fetchIdx (s : State) (r : Request) (rest : List Request) : (s.accept r rest).fetchIdx = s.fetchIdx := rfl
@[simp] theorem accept_spriteFetchMsk (s : State) (r : Request) (rest : List Request) : (s.accept r rest).spriteFetchMsk = s.spriteFetchMsk := rfl
@[simp] theorem accept_spriteFetchIdx (s : State) (r : Request) (rest : List Request) : (s.accept r rest).spriteFetchIdx = s.spriteFetchIdx := rfl
@[simp] theorem accept_spriteFetchBase (s : State) (r : Request) (rest : List Request) : (s.accept r rest).spriteFetchBase = s.spriteFetchBase := rfl
@[simp] theorem accept_regs (s : State) (r : Request) (rest : List Request) : (s.accept r rest).regs = s.regs := rfl
@[simp] theorem accept_videoMode (s : State) (r : Request) (rest : List Request) : (s.accept r rest).videoMode = s.videoMode := rfl
@[simp] theorem accept_idleState (s : State) (r : Request) (rest : List Request) : (s.accept r rest).idleState = s.idleState := rfl
@[simp] theorem accept_badLine (s : State) (r : Request) (rest : List Request) : (s.accept r rest).badLine = s.badLine := rfl
@[simp] theorem accept_allowBadLines (s : State) (r : Request) (rest : List Request) : (s.accept r rest).allowBadLines = s.allowBadLines := rfl
@[simp] theorem accept_blank (s : State) (r : Request) (rest : List Request) : (s.accept r rest).blank = s.blank := rfl
@[simp] theorem accept_forceDisplayState (s : State) (r : Request) (rest : List Request) : (s.accept r rest).forceDisplayState = s.forceDisplayState := rfl
@[simp] theorem accept_ycounter (s : State) (r : Request) (rest : List Request) : (s.accept r rest).ycounter = s.ycounter := rfl
@[simp] theorem accept_memCounter (s : State) (r : Request) (rest : List Request) : (s.accept r rest).memCounter = s.memCounter := rfl
@[simp] theorem accept_memptr (s : State) (r : Request) (rest : List Request) : (s.accept r rest).memptr = s.memptr := rfl
@[simp] theorem accept_memCounterInc (s : State) (r : Request) (rest : List Request) : (s.accept r rest).memCounterInc = s.memCounterInc := rfl
@[simp] theorem accept_vbuf (s : State) (r : Request) (rest : List Request) : (s.accept r rest).vbuf = s.vbuf := rfl
@[simp] theorem accept_cbuf (s : State) (r : Request) (rest : List Request) : (s.accept r rest).cbuf = s.cbuf := rfl
@[simp] theorem accept_backgroundColorSource (s : State) (r : Request) (rest : List Request) : (s.accept r rest).backgroundColorSource = s.backgroundColorSource := rfl
@[simp] theorem accept_idleData (s : State) (r : Request) (rest : List Request) : (s.accept r rest).idleData = s.idleData := rfl
@[simp] theorem accept_colorRam (s : State) (r : Request) (rest : List Request) : (s.accept r rest).colorRam = s.colorRam := rfl
@[simp] theorem accept_vbankPhi1 (s : State) (r : Request) (rest : List Request) : (s.accept r rest).vbankPhi1 = s.vbankPhi1 := rfl
@[simp] theorem accept_vbankPhi2 (s : State) (r : Request) (rest : List Request) : (s.accept r rest).vbankPhi2 = s.vbankPhi2 := rfl
@[simp] theorem accept_ramBaseOffset (s : State) (r : Request) (rest : List Request) : (s.accept r rest).ramBaseOffset = s.ramBaseOffset := rfl
@[simp] theorem accept_irqStatus (s : State) (r : Request) (rest : List Request) : (s.accept r rest).irqStatus = s.irqStatus := rfl
@[simp] theorem accept_rasterIrqLine (s : State) (r : Request) (rest : List Request) : (s.accept r rest).rasterIrqLine = s.rasterIrqLine := rfl
@[simp] theorem accept_irqLine (s : State) (r : Request) (rest : List Request) : (s.accept r rest).irqLine = s.irqLine := rfl
@[simp] theorem accept_spriteSpriteCollisions (s : State) (r : Request) (rest : List Request) : (s.accept r rest).spriteSpriteCollisions = s.spriteSpriteCollisions := rfl
@[simp] theorem accept_spriteBackgroundCollisions (s : State) (r : Request) (rest : List Request) : (s.accept r rest).spriteBackgroundCollisions = s.spriteBackgroundCollisions := rfl
@[simp] theorem accept_lastRead (s : State) (r : Request) (rest : List Request) : (s.accept r rest).lastRead = s.lastRead := rfl
@[simp] theorem accept_lightPen (s : State) (r : Request) (rest : List Request) : (s.accept r rest).lightPen = s.lightPen := rfl
@[simp] theorem accept_sprites (s : State) (r : Request) (rest : List Request) : (s.accept r rest).sprites = s.sprites := rfl
@[simp] theorem accept_newSpriteDmaMask (s : State) (r : Request) (rest : List Request) : (s.accept r rest).newSpriteDmaMask = s.newSpriteDmaMask := rfl
@[simp] theorem accept_spriteDmaMask (s : State) (r : Request) (rest : List Request) : (s.accept r rest).spriteDmaMask = s.spriteDmaMask := rfl
@[simp] theorem accept_changes (s : State) (r : Request) (rest : List Request) : (s.accept r rest).changes = s.changes := rfl
@[simp] theorem accept_lineStart (s : State) (r : Request) (rest : List Request) : (s.accept r rest).lineStart = s.lineStart := rfl
@[simp] theorem accept_cache (s : State) (r : Request) (rest : List Request) : (s.accept r rest).cache = s.cache := rfl
@[simp] theorem accept_dirtyRange (s : State) (r : Request) (rest : List Request) : (s.accept r rest).dirtyRange = s.dirtyRange := rfl
@[simp] theorem accept_borderTop (s : State) (r : Request) (rest : List Request) : (s.accept r rest).borderTop = s.borderTop := rfl
@[simp] theorem accept_borderBottom (s : State) (r : Request) (rest : List Request) : (s.accept r rest).borderBottom = s.borderBottom := rfl
@[simp] theorem accept_verticalBorder (s : State) (r : Request) (rest : List Request) : (s.accept r rest).verticalBorder = s.verticalBorder := rfl
@[simp] theorem accept_ram (s : State) (r : Request) (rest : List Request) : (s.accept r rest).ram = r.memory.foldl MemoryChange.onRam s.ram := rfl
@[simp] theorem accept_chargen (s : State) (r : Request) (rest : List Request) : (s.accept r rest).chargen = r.memory.foldl MemoryChange.onChargen s.chargen := rfl
@[simp] theorem accept_romh (s : State) (r : Request) (rest : List Request) : (s.accept r rest).romh = r.memory.foldl MemoryChange.onRomh s.romh := rfl
@[simp] theorem accept_memoryTime (s : State) (r : Request) (rest : List Request) : (s.accept r rest).memoryTime = s.memoryTime + 1 := rfl
@[simp] theorem accept_ultimax (s : State) (r : Request) (rest : List Request) : (s.accept r rest).ultimax = r.ultimax := rfl
@[simp] theorem accept_readData (s : State) (r : Request) (rest : List Request) : (s.accept r rest).readData = s.readData := rfl
@[simp] theorem accept_stolenCycles (s : State) (r : Request) (rest : List Request) : (s.accept r rest).stolenCycles = if r.takeStolen then 0 else s.stolenCycles := rfl
@[simp] theorem accept_lines (s : State) (r : Request) (rest : List Request) : (s.accept r rest).lines = s.lines := rfl
@[simp] theorem accept_log (s : State) (r : Request) (rest : List Request) : (s.accept r rest).log = s.log := rfl
@[simp] theorem accept_snapshotOut (s : State) (r : Request) (rest : List Request) : (s.accept r rest).snapshotOut = s.snapshotOut := rfl
@[simp] theorem accept_lineCollisions (s : State) (r : Request) (rest : List Request) : (s.accept r rest).lineCollisions = s.lineCollisions := rfl
@[simp] theorem accept_inbox (s : State) (r : Request) (rest : List Request) : (s.accept r rest).inbox = rest := rfl
@[simp] theorem accept_operands (s : State) (r : Request) (rest : List Request) : (s.accept r rest).operands = r.operands := rfl
@[simp] theorem accept_draws (s : State) (r : Request) (rest : List Request) : (s.accept r rest).draws = s.draws := rfl

/-! updateIrqLine -/

@[simp] theorem updateIrqLine_cfg (s : State) : (updateIrqLine s).cfg = s.cfg := rfl
@[simp] theorem updateIrqLine_clk (s : State) : (updateIrqLine s).clk = s.clk := rfl
@[simp] theorem updateIrqLine_clkOrigin (s : State) : (updateIrqLine s).clkOrigin = s.clkOrigin := rfl
@[simp] theorem updateIrqLine_currentLine (s : State) : (updateIrqLine s).currentLine = s.currentLine := rfl
@[simp] theorem updateIrqLine_fetchClk (s : State) : (updateIrqLine s).fetchClk = s.fetchClk := rfl
@[simp] theorem updateIrqLine_drawClk (s : State) : (updateIrqLine s).drawClk = s.drawClk := rfl
@[simp] theorem updateIrqLine_rasterIrqClk (s : State) : (updateIrqLine s).rasterIrqClk = s.rasterIrqClk := rfl
@[simp] theorem updateIrqLine_fetchIdx (s : State) : (updateIrqLine s).fetchIdx = s.fetchIdx := rfl
@[simp] theorem updateIrqLine_spriteFetchMsk (s : State) : (updateIrqLine s).spriteFetchMsk = s.spriteFetchMsk := rfl
@[simp] theorem updateIrqLine_spriteFetchIdx (s : State) : (updateIrqLine s).spriteFetchIdx = s.spriteFetchIdx := rfl
@[simp] theorem updateIrqLine_spriteFetchBase (s : State) : (updateIrqLine s).spriteFetchBase = s.spriteFetchBase := rfl
@[simp] theorem updateIrqLine_regs (s : State) : (updateIrqLine s).regs = s.regs := rfl
@[simp] theorem updateIrqLine_videoMode (s : State) : (updateIrqLine s).videoMode = s.videoMode := rfl
@[simp] theorem updateIrqLine_idleState (s : State) : (updateIrqLine s).idleState = s.idleState := rfl
@[simp] theorem updateIrqLine_badLine (s : State) : (updateIrqLine s).badLine = s.badLine := rfl
@[simp] theorem updateIrqLine_allowBadLines (s : State) : (updateIrqLine s).allowBadLines = s.allowBadLines := rfl
@[simp] theorem updateIrqLine_blank (s : State) : (updateIrqLine s).blank = s.blank := rfl
@[simp] theorem updateIrqLine_forceDisplayState (s : State) : (updateIrqLine s).forceDisplayState = s.forceDisplayState := rfl
@[simp] theorem updateIrqLine_ycounter (s : State) : (updateIrqLine s).ycounter = s.ycounter := rfl
@[simp] theorem updateIrqLine_memCounter (s : State) : (updateIrqLine s).memCounter = s.memCounter := rfl
@[simp] theorem updateIrqLine_memptr (s : State) : (updateIrqLine s).memptr = s.memptr := rfl
@[simp] theorem updateIrqLine_memCounterInc (s : State) : (updateIrqLine s).memCounterInc = s.memCounterInc := rfl
@[simp] theorem updateIrqLine_vbuf (s : State) : (updateIrqLine s).vbuf = s.vbuf := rfl
@[simp] theorem updateIrqLine_cbuf (s : State) : (updateIrqLine s).cbuf = s.cbuf := rfl
@[simp] theorem updateIrqLine_backgroundColorSource (s : State) : (updateIrqLine s).backgroundColorSource = s.backgroundColorSource := rfl
@[simp] theorem updateIrqLine_idleData (s : State) : (updateIrqLine s).idleData = s.idleData := rfl
@[simp] theorem updateIrqLine_colorRam (s : State) : (updateIrqLine s).colorRam = s.colorRam := rfl
@[simp] theorem updateIrqLine_vbankPhi1 (s : State) : (updateIrqLine s).vbankPhi1 = s.vbankPhi1 := rfl
@[simp] theorem updateIrqLine_vbankPhi2 (s : State) : (updateIrqLine s).vbankPhi2 = s.vbankPhi2 := rfl
@[simp] theorem updateIrqLine_ramBaseOffset (s : State) : (updateIrqLine s).ramBaseOffset = s.ramBaseOffset := rfl
@[simp] theorem updateIrqLine_irqStatus (s : State) : (updateIrqLine s).irqStatus = s.irqStatus := rfl
@[simp] theorem updateIrqLine_rasterIrqLine (s : State) : (updateIrqLine s).rasterIrqLine = s.rasterIrqLine := rfl
@[simp] theorem updateIrqLine_irqLine (s : State) : (updateIrqLine s).irqLine = irqRequest s.irqStatus (s.reg 0x1A) := rfl
@[simp] theorem updateIrqLine_spriteSpriteCollisions (s : State) : (updateIrqLine s).spriteSpriteCollisions = s.spriteSpriteCollisions := rfl
@[simp] theorem updateIrqLine_spriteBackgroundCollisions (s : State) : (updateIrqLine s).spriteBackgroundCollisions = s.spriteBackgroundCollisions := rfl
@[simp] theorem updateIrqLine_lastRead (s : State) : (updateIrqLine s).lastRead = s.lastRead := rfl
@[simp] theorem updateIrqLine_lightPen (s : State) : (updateIrqLine s).lightPen = s.lightPen := rfl
@[simp] theorem updateIrqLine_sprites (s : State) : (updateIrqLine s).sprites = s.sprites := rfl
@[simp] theorem updateIrqLine_newSpriteDmaMask (s : State) : (updateIrqLine s).newSpriteDmaMask = s.newSpriteDmaMask := rfl
@[simp] theorem updateIrqLine_spriteDmaMask (s : State) : (updateIrqLine s).spriteDmaMask = s.spriteDmaMask := rfl
@[simp] theorem updateIrqLine_changes (s : State) : (updateIrqLine s).changes = s.changes := rfl
@[simp] theorem updateIrqLine_lineStart (s : State) : (updateIrqLine s).lineStart = s.lineStart := rfl
@[simp] theorem updateIrqLine_cache (s : State) : (updateIrqLine s).cache = s.cache := rfl
@[simp] theorem updateIrqLine_dirtyRange (s : State) : (updateIrqLine s).dirtyRange = s.dirtyRange := rfl
@[simp] theorem updateIrqLine_borderTop (s : State) : (updateIrqLine s).borderTop = s.borderTop := rfl
@[simp] theorem updateIrqLine_borderBottom (s : State) : (updateIrqLine s).borderBottom = s.borderBottom := rfl
@[simp] theorem updateIrqLine_verticalBorder (s : State) : (updateIrqLine s).verticalBorder = s.verticalBorder := rfl
@[simp] theorem updateIrqLine_ram (s : State) : (updateIrqLine s).ram = s.ram := rfl
@[simp] theorem updateIrqLine_chargen (s : State) : (updateIrqLine s).chargen = s.chargen := rfl
@[simp] theorem updateIrqLine_romh (s : State) : (updateIrqLine s).romh = s.romh := rfl
@[simp] theorem updateIrqLine_memoryTime (s : State) : (updateIrqLine s).memoryTime = s.memoryTime := rfl
@[simp] theorem updateIrqLine_ultimax (s : State) : (updateIrqLine s).ultimax = s.ultimax := rfl
@[simp] theorem updateIrqLine_readData (s : State) : (updateIrqLine s).readData = s.readData := rfl
@[simp] theorem updateIrqLine_stolenCycles (s : State) : (updateIrqLine s).stolenCycles = s.stolenCycles := rfl
@[simp] theorem updateIrqLine_lines (s : State) : (updateIrqLine s).lines = s.lines := rfl
@[simp] theorem updateIrqLine_log (s : State) : (updateIrqLine s).log = s.log := rfl
@[simp] theorem updateIrqLine_snapshotOut (s : State) : (updateIrqLine s).snapshotOut = s.snapshotOut := rfl
@[simp] theorem updateIrqLine_lineCollisions (s : State) : (updateIrqLine s).lineCollisions = s.lineCollisions := rfl
@[simp] theorem updateIrqLine_inbox (s : State) : (updateIrqLine s).inbox = s.inbox := rfl
@[simp] theorem updateIrqLine_operands (s : State) : (updateIrqLine s).operands = s.operands := rfl
@[simp] theorem updateIrqLine_draws (s : State) : (updateIrqLine s).draws = s.draws := rfl

/-! raiseIrq -/

@[simp] theorem raiseIrq_cfg (src : IrqSource) (s : State) : (raiseIrq src s).cfg = s.cfg := rfl
@[simp] theorem raiseIrq_clk (src : IrqSource) (s : State) : (raiseIrq src s).clk = s.clk := rfl
@[simp] theorem raiseIrq_clkOrigin (src : IrqSource) (s : State) : (raiseIrq src s).clkOrigin = s.clkOrigin := rfl
@[simp] theorem raiseIrq_currentLine (src : IrqSource) (s : State) : (raiseIrq src s).currentLine = s.currentLine := rfl
@[simp] theorem raiseIrq_fetchClk (src : IrqSource) (s : State) : (raiseIrq src s).fetchClk = s.fetchClk := rfl
@[simp] theorem raiseIrq_drawClk (src : IrqSource) (s : State) : (raiseIrq src s).drawClk = s.drawClk := rfl
@[simp] theorem raiseIrq_rasterIrqClk (src : IrqSource) (s : State) : (raiseIrq src s).rasterIrqClk = s.rasterIrqClk := rfl
@[simp] theorem raiseIrq_fetchIdx (src : IrqSource) (s : State) : (raiseIrq src s).fetchIdx = s.fetchIdx := rfl
@[simp] theorem raiseIrq_spriteFetchMsk (src : IrqSource) (s : State) : (raiseIrq src s).spriteFetchMsk = s.spriteFetchMsk := rfl
@[simp] theorem raiseIrq_spriteFetchIdx (src : IrqSource) (s : State) : (raiseIrq src s).spriteFetchIdx = s.spriteFetchIdx := rfl
@[simp] theorem raiseIrq_spriteFetchBase (src : IrqSource) (s : State) : (raiseIrq src s).spriteFetchBase = s.spriteFetchBase := rfl
@[simp] theorem raiseIrq_regs (src : IrqSource) (s : State) : (raiseIrq src s).regs = s.regs := rfl
@[simp] theorem raiseIrq_videoMode (src : IrqSource) (s : State) : (raiseIrq src s).videoMode = s.videoMode := rfl
@[simp] theorem raiseIrq_idleState (src : IrqSource) (s : State) : (raiseIrq src s).idleState = s.idleState := rfl
@[simp] theorem raiseIrq_badLine (src : IrqSource) (s : State) : (raiseIrq src s).badLine = s.badLine := rfl
@[simp] theorem raiseIrq_allowBadLines (src : IrqSource) (s : State) : (raiseIrq src s).allowBadLines = s.allowBadLines := rfl
@[simp] theorem raiseIrq_blank (src : IrqSource) (s : State) : (raiseIrq src s).blank = s.blank := rfl
@[simp] theorem raiseIrq_forceDisplayState (src : IrqSource) (s : State) : (raiseIrq src s).forceDisplayState = s.forceDisplayState := rfl
@[simp] theorem raiseIrq_ycounter (src : IrqSource) (s : State) : (raiseIrq src s).ycounter = s.ycounter := rfl
@[simp] theorem raiseIrq_memCounter (src : IrqSource) (s : State) : (raiseIrq src s).memCounter = s.memCounter := rfl
@[simp] theorem raiseIrq_memptr (src : IrqSource) (s : State) : (raiseIrq src s).memptr = s.memptr := rfl
@[simp] theorem raiseIrq_memCounterInc (src : IrqSource) (s : State) : (raiseIrq src s).memCounterInc = s.memCounterInc := rfl
@[simp] theorem raiseIrq_vbuf (src : IrqSource) (s : State) : (raiseIrq src s).vbuf = s.vbuf := rfl
@[simp] theorem raiseIrq_cbuf (src : IrqSource) (s : State) : (raiseIrq src s).cbuf = s.cbuf := rfl
@[simp] theorem raiseIrq_backgroundColorSource (src : IrqSource) (s : State) : (raiseIrq src s).backgroundColorSource = s.backgroundColorSource := rfl
@[simp] theorem raiseIrq_idleData (src : IrqSource) (s : State) : (raiseIrq src s).idleData = s.idleData := rfl
@[simp] theorem raiseIrq_colorRam (src : IrqSource) (s : State) : (raiseIrq src s).colorRam = s.colorRam := rfl
@[simp] theorem raiseIrq_vbankPhi1 (src : IrqSource) (s : State) : (raiseIrq src s).vbankPhi1 = s.vbankPhi1 := rfl
@[simp] theorem raiseIrq_vbankPhi2 (src : IrqSource) (s : State) : (raiseIrq src s).vbankPhi2 = s.vbankPhi2 := rfl
@[simp] theorem raiseIrq_ramBaseOffset (src : IrqSource) (s : State) : (raiseIrq src s).ramBaseOffset = s.ramBaseOffset := rfl
@[simp] theorem raiseIrq_irqStatus (src : IrqSource) (s : State) : (raiseIrq src s).irqStatus = s.irqStatus ||| src.mask := rfl
@[simp] theorem raiseIrq_rasterIrqLine (src : IrqSource) (s : State) : (raiseIrq src s).rasterIrqLine = s.rasterIrqLine := rfl
@[simp] theorem raiseIrq_irqLine (src : IrqSource) (s : State) : (raiseIrq src s).irqLine = irqRequest (s.irqStatus ||| src.mask) (s.reg 0x1A) := rfl
@[simp] theorem raiseIrq_spriteSpriteCollisions (src : IrqSource) (s : State) : (raiseIrq src s).spriteSpriteCollisions = s.spriteSpriteCollisions := rfl
@[simp] theorem raiseIrq_spriteBackgroundCollisions (src : IrqSource) (s : State) : (raiseIrq src s).spriteBackgroundCollisions = s.spriteBackgroundCollisions := rfl
@[simp] theorem raiseIrq_lastRead (src : IrqSource) (s : State) : (raiseIrq src s).lastRead = s.lastRead := rfl
@[simp] theorem raiseIrq_lightPen (src : IrqSource) (s : State) : (raiseIrq src s).lightPen = s.lightPen := rfl
@[simp] theorem raiseIrq_sprites (src : IrqSource) (s : State) : (raiseIrq src s).sprites = s.sprites := rfl
@[simp] theorem raiseIrq_newSpriteDmaMask (src : IrqSource) (s : State) : (raiseIrq src s).newSpriteDmaMask = s.newSpriteDmaMask := rfl
@[simp] theorem raiseIrq_spriteDmaMask (src : IrqSource) (s : State) : (raiseIrq src s).spriteDmaMask = s.spriteDmaMask := rfl
@[simp] theorem raiseIrq_changes (src : IrqSource) (s : State) : (raiseIrq src s).changes = s.changes := rfl
@[simp] theorem raiseIrq_lineStart (src : IrqSource) (s : State) : (raiseIrq src s).lineStart = s.lineStart := rfl
@[simp] theorem raiseIrq_cache (src : IrqSource) (s : State) : (raiseIrq src s).cache = s.cache := rfl
@[simp] theorem raiseIrq_dirtyRange (src : IrqSource) (s : State) : (raiseIrq src s).dirtyRange = s.dirtyRange := rfl
@[simp] theorem raiseIrq_borderTop (src : IrqSource) (s : State) : (raiseIrq src s).borderTop = s.borderTop := rfl
@[simp] theorem raiseIrq_borderBottom (src : IrqSource) (s : State) : (raiseIrq src s).borderBottom = s.borderBottom := rfl
@[simp] theorem raiseIrq_verticalBorder (src : IrqSource) (s : State) : (raiseIrq src s).verticalBorder = s.verticalBorder := rfl
@[simp] theorem raiseIrq_ram (src : IrqSource) (s : State) : (raiseIrq src s).ram = s.ram := rfl
@[simp] theorem raiseIrq_chargen (src : IrqSource) (s : State) : (raiseIrq src s).chargen = s.chargen := rfl
@[simp] theorem raiseIrq_romh (src : IrqSource) (s : State) : (raiseIrq src s).romh = s.romh := rfl
@[simp] theorem raiseIrq_memoryTime (src : IrqSource) (s : State) : (raiseIrq src s).memoryTime = s.memoryTime := rfl
@[simp] theorem raiseIrq_ultimax (src : IrqSource) (s : State) : (raiseIrq src s).ultimax = s.ultimax := rfl
@[simp] theorem raiseIrq_readData (src : IrqSource) (s : State) : (raiseIrq src s).readData = s.readData := rfl
@[simp] theorem raiseIrq_stolenCycles (src : IrqSource) (s : State) : (raiseIrq src s).stolenCycles = s.stolenCycles := rfl
@[simp] theorem raiseIrq_lines (src : IrqSource) (s : State) : (raiseIrq src s).lines = s.lines := rfl
@[simp] theorem raiseIrq_log (src : IrqSource) (s : State) : (raiseIrq src s).log = s.log := rfl
@[simp] theorem raiseIrq_snapshotOut (src : IrqSource) (s : State) : (raiseIrq src s).snapshotOut = s.snapshotOut := rfl
@[simp] theorem raiseIrq_lineCollisions (src : IrqSource) (s : State) : (raiseIrq src s).lineCollisions = s.lineCollisions := rfl
@[simp] theorem raiseIrq_inbox (src : IrqSource) (s : State) : (raiseIrq src s).inbox = s.inbox := rfl
@[simp] theorem raiseIrq_operands (src : IrqSource) (s : State) : (raiseIrq src s).operands = s.operands := rfl
@[simp] theorem raiseIrq_draws (src : IrqSource) (s : State) : (raiseIrq src s).draws = s.draws := rfl

/-! acknowledgeIrq -/

@[simp] theorem acknowledgeIrq_cfg (s : State) : (acknowledgeIrq s).cfg = s.cfg := rfl
@[simp] theorem acknowledgeIrq_clk (s : State) : (acknowledgeIrq s).clk = s.clk := rfl
@[simp] theorem acknowledgeIrq_clkOrigin (s : State) : (acknowledgeIrq s).clkOrigin = s.clkOrigin := rfl
@[simp] theorem acknowledgeIrq_currentLine (s : State) : (acknowledgeIrq s).currentLine = s.currentLine := rfl
@[simp] theorem acknowledgeIrq_fetchClk (s : State) : (acknowledgeIrq s).fetchClk = s.fetchClk := rfl
@[simp] theorem acknowledgeIrq_drawClk (s : State) : (acknowledgeIrq s).drawClk = s.drawClk := rfl
@[simp] theorem acknowledgeIrq_rasterIrqClk (s : State) : (acknowledgeIrq s).rasterIrqClk = s.rasterIrqClk := rfl
@[simp] theorem acknowledgeIrq_fetchIdx (s : State) : (acknowledgeIrq s).fetchIdx = s.fetchIdx := rfl
@[simp] theorem acknowledgeIrq_spriteFetchMsk (s : State) : (acknowledgeIrq s).spriteFetchMsk = s.spriteFetchMsk := rfl
@[simp] theorem acknowledgeIrq_spriteFetchIdx (s : State) : (acknowledgeIrq s).spriteFetchIdx = s.spriteFetchIdx := rfl
@[simp] theorem acknowledgeIrq_spriteFetchBase (s : State) : (acknowledgeIrq s).spriteFetchBase = s.spriteFetchBase := rfl
@[simp] theorem acknowledgeIrq_regs (s : State) : (acknowledgeIrq s).regs = s.regs := rfl
@[simp] theorem acknowledgeIrq_videoMode (s : State) : (acknowledgeIrq s).videoMode = s.videoMode := rfl
@[simp] theorem acknowledgeIrq_idleState (s : State) : (acknowledgeIrq s).idleState = s.idleState := rfl
@[simp] theorem acknowledgeIrq_badLine (s : State) : (acknowledgeIrq s).badLine = s.badLine := rfl
@[simp] theorem acknowledgeIrq_allowBadLines (s : State) : (acknowledgeIrq s).allowBadLines = s.allowBadLines := rfl
@[simp] theorem acknowledgeIrq_blank (s : State) : (acknowledgeIrq s).blank = s.blank := rfl
@[simp] theorem acknowledgeIrq_forceDisplayState (s : State) : (acknowledgeIrq s).forceDisplayState = s.forceDisplayState := rfl
@[simp] theorem acknowledgeIrq_ycounter (s : State) : (acknowledgeIrq s).ycounter = s.ycounter := rfl
@[simp] theorem acknowledgeIrq_memCounter (s : State) : (acknowledgeIrq s).memCounter = s.memCounter := rfl
@[simp] theorem acknowledgeIrq_memptr (s : State) : (acknowledgeIrq s).memptr = s.memptr := rfl
@[simp] theorem acknowledgeIrq_memCounterInc (s : State) : (acknowledgeIrq s).memCounterInc = s.memCounterInc := rfl
@[simp] theorem acknowledgeIrq_vbuf (s : State) : (acknowledgeIrq s).vbuf = s.vbuf := rfl
@[simp] theorem acknowledgeIrq_cbuf (s : State) : (acknowledgeIrq s).cbuf = s.cbuf := rfl
@[simp] theorem acknowledgeIrq_backgroundColorSource (s : State) : (acknowledgeIrq s).backgroundColorSource = s.backgroundColorSource := rfl
@[simp] theorem acknowledgeIrq_idleData (s : State) : (acknowledgeIrq s).idleData = s.idleData := rfl
@[simp] theorem acknowledgeIrq_colorRam (s : State) : (acknowledgeIrq s).colorRam = s.colorRam := rfl
@[simp] theorem acknowledgeIrq_vbankPhi1 (s : State) : (acknowledgeIrq s).vbankPhi1 = s.vbankPhi1 := rfl
@[simp] theorem acknowledgeIrq_vbankPhi2 (s : State) : (acknowledgeIrq s).vbankPhi2 = s.vbankPhi2 := rfl
@[simp] theorem acknowledgeIrq_ramBaseOffset (s : State) : (acknowledgeIrq s).ramBaseOffset = s.ramBaseOffset := rfl
@[simp] theorem acknowledgeIrq_irqStatus (s : State) : (acknowledgeIrq s).irqStatus = s.irqStatus &&& ~~~(s.lastRead &&& 0x0F#8) := rfl
@[simp] theorem acknowledgeIrq_rasterIrqLine (s : State) : (acknowledgeIrq s).rasterIrqLine = s.rasterIrqLine := rfl
@[simp] theorem acknowledgeIrq_irqLine (s : State) : (acknowledgeIrq s).irqLine = irqRequest (s.irqStatus &&& ~~~(s.lastRead &&& 0x0F#8)) (s.reg 0x1A) := rfl
@[simp] theorem acknowledgeIrq_spriteSpriteCollisions (s : State) : (acknowledgeIrq s).spriteSpriteCollisions = s.spriteSpriteCollisions := rfl
@[simp] theorem acknowledgeIrq_spriteBackgroundCollisions (s : State) : (acknowledgeIrq s).spriteBackgroundCollisions = s.spriteBackgroundCollisions := rfl
@[simp] theorem acknowledgeIrq_lastRead (s : State) : (acknowledgeIrq s).lastRead = s.lastRead := rfl
@[simp] theorem acknowledgeIrq_lightPen (s : State) : (acknowledgeIrq s).lightPen = s.lightPen := rfl
@[simp] theorem acknowledgeIrq_sprites (s : State) : (acknowledgeIrq s).sprites = s.sprites := rfl
@[simp] theorem acknowledgeIrq_newSpriteDmaMask (s : State) : (acknowledgeIrq s).newSpriteDmaMask = s.newSpriteDmaMask := rfl
@[simp] theorem acknowledgeIrq_spriteDmaMask (s : State) : (acknowledgeIrq s).spriteDmaMask = s.spriteDmaMask := rfl
@[simp] theorem acknowledgeIrq_changes (s : State) : (acknowledgeIrq s).changes = s.changes := rfl
@[simp] theorem acknowledgeIrq_lineStart (s : State) : (acknowledgeIrq s).lineStart = s.lineStart := rfl
@[simp] theorem acknowledgeIrq_cache (s : State) : (acknowledgeIrq s).cache = s.cache := rfl
@[simp] theorem acknowledgeIrq_dirtyRange (s : State) : (acknowledgeIrq s).dirtyRange = s.dirtyRange := rfl
@[simp] theorem acknowledgeIrq_borderTop (s : State) : (acknowledgeIrq s).borderTop = s.borderTop := rfl
@[simp] theorem acknowledgeIrq_borderBottom (s : State) : (acknowledgeIrq s).borderBottom = s.borderBottom := rfl
@[simp] theorem acknowledgeIrq_verticalBorder (s : State) : (acknowledgeIrq s).verticalBorder = s.verticalBorder := rfl
@[simp] theorem acknowledgeIrq_ram (s : State) : (acknowledgeIrq s).ram = s.ram := rfl
@[simp] theorem acknowledgeIrq_chargen (s : State) : (acknowledgeIrq s).chargen = s.chargen := rfl
@[simp] theorem acknowledgeIrq_romh (s : State) : (acknowledgeIrq s).romh = s.romh := rfl
@[simp] theorem acknowledgeIrq_memoryTime (s : State) : (acknowledgeIrq s).memoryTime = s.memoryTime := rfl
@[simp] theorem acknowledgeIrq_ultimax (s : State) : (acknowledgeIrq s).ultimax = s.ultimax := rfl
@[simp] theorem acknowledgeIrq_readData (s : State) : (acknowledgeIrq s).readData = s.readData := rfl
@[simp] theorem acknowledgeIrq_stolenCycles (s : State) : (acknowledgeIrq s).stolenCycles = s.stolenCycles := rfl
@[simp] theorem acknowledgeIrq_lines (s : State) : (acknowledgeIrq s).lines = s.lines := rfl
@[simp] theorem acknowledgeIrq_log (s : State) : (acknowledgeIrq s).log = s.log := rfl
@[simp] theorem acknowledgeIrq_snapshotOut (s : State) : (acknowledgeIrq s).snapshotOut = s.snapshotOut := rfl
@[simp] theorem acknowledgeIrq_lineCollisions (s : State) : (acknowledgeIrq s).lineCollisions = s.lineCollisions := rfl
@[simp] theorem acknowledgeIrq_inbox (s : State) : (acknowledgeIrq s).inbox = s.inbox := rfl
@[simp] theorem acknowledgeIrq_operands (s : State) : (acknowledgeIrq s).operands = s.operands := rfl
@[simp] theorem acknowledgeIrq_draws (s : State) : (acknowledgeIrq s).draws = s.draws := rfl

/-! addChange -/

@[simp] theorem addChange_cfg (t : TargetValue) (s : State) : (addChange t s).cfg = s.cfg := rfl
@[simp] theorem addChange_clk (t : TargetValue) (s : State) : (addChange t s).clk = s.clk := rfl
@[simp] theorem addChange_clkOrigin (t : TargetValue) (s : State) : (addChange t s).clkOrigin = s.clkOrigin := rfl
@[simp] theorem addChange_currentLine (t : TargetValue) (s : State) : (addChange t s).currentLine = s.currentLine := rfl
@[simp] theorem addChange_fetchClk (t : TargetValue) (s : State) : (addChange t s).fetchClk = s.fetchClk := rfl
@[simp] theorem addChange_drawClk (t : TargetValue) (s : State) : (addChange t s).drawClk = s.drawClk := rfl
@[simp] theorem addChange_rasterIrqClk (t : TargetValue) (s : State) : (addChange t s).rasterIrqClk = s.rasterIrqClk := rfl
@[simp] theorem addChange_fetchIdx (t : TargetValue) (s : State) : (addChange t s).fetchIdx = s.fetchIdx := rfl
@[simp] theorem addChange_spriteFetchMsk (t : TargetValue) (s : State) : (addChange t s).spriteFetchMsk = s.spriteFetchMsk := rfl
@[simp] theorem addChange_spriteFetchIdx (t : TargetValue) (s : State) : (addChange t s).spriteFetchIdx = s.spriteFetchIdx := rfl
@[simp] theorem addChange_spriteFetchBase (t : TargetValue) (s : State) : (addChange t s).spriteFetchBase = s.spriteFetchBase := rfl
@[simp] theorem addChange_regs (t : TargetValue) (s : State) : (addChange t s).regs = s.regs := rfl
@[simp] theorem addChange_videoMode (t : TargetValue) (s : State) : (addChange t s).videoMode = s.videoMode := rfl
@[simp] theorem addChange_idleState (t : TargetValue) (s : State) : (addChange t s).idleState = s.idleState := rfl
@[simp] theorem addChange_badLine (t : TargetValue) (s : State) : (addChange t s).badLine = s.badLine := rfl
@[simp] theorem addChange_allowBadLines (t : TargetValue) (s : State) : (addChange t s).allowBadLines = s.allowBadLines := rfl
@[simp] theorem addChange_blank (t : TargetValue) (s : State) : (addChange t s).blank = s.blank := rfl
@[simp] theorem addChange_forceDisplayState (t : TargetValue) (s : State) : (addChange t s).forceDisplayState = s.forceDisplayState := rfl
@[simp] theorem addChange_ycounter (t : TargetValue) (s : State) : (addChange t s).ycounter = s.ycounter := rfl
@[simp] theorem addChange_memCounter (t : TargetValue) (s : State) : (addChange t s).memCounter = s.memCounter := rfl
@[simp] theorem addChange_memptr (t : TargetValue) (s : State) : (addChange t s).memptr = s.memptr := rfl
@[simp] theorem addChange_memCounterInc (t : TargetValue) (s : State) : (addChange t s).memCounterInc = s.memCounterInc := rfl
@[simp] theorem addChange_vbuf (t : TargetValue) (s : State) : (addChange t s).vbuf = s.vbuf := rfl
@[simp] theorem addChange_cbuf (t : TargetValue) (s : State) : (addChange t s).cbuf = s.cbuf := rfl
@[simp] theorem addChange_backgroundColorSource (t : TargetValue) (s : State) : (addChange t s).backgroundColorSource = s.backgroundColorSource := rfl
@[simp] theorem addChange_idleData (t : TargetValue) (s : State) : (addChange t s).idleData = s.idleData := rfl
@[simp] theorem addChange_colorRam (t : TargetValue) (s : State) : (addChange t s).colorRam = s.colorRam := rfl
@[simp] theorem addChange_vbankPhi1 (t : TargetValue) (s : State) : (addChange t s).vbankPhi1 = s.vbankPhi1 := rfl
@[simp] theorem addChange_vbankPhi2 (t : TargetValue) (s : State) : (addChange t s).vbankPhi2 = s.vbankPhi2 := rfl
@[simp] theorem addChange_ramBaseOffset (t : TargetValue) (s : State) : (addChange t s).ramBaseOffset = s.ramBaseOffset := rfl
@[simp] theorem addChange_irqStatus (t : TargetValue) (s : State) : (addChange t s).irqStatus = s.irqStatus := rfl
@[simp] theorem addChange_rasterIrqLine (t : TargetValue) (s : State) : (addChange t s).rasterIrqLine = s.rasterIrqLine := rfl
@[simp] theorem addChange_irqLine (t : TargetValue) (s : State) : (addChange t s).irqLine = s.irqLine := rfl
@[simp] theorem addChange_spriteSpriteCollisions (t : TargetValue) (s : State) : (addChange t s).spriteSpriteCollisions = s.spriteSpriteCollisions := rfl
@[simp] theorem addChange_spriteBackgroundCollisions (t : TargetValue) (s : State) : (addChange t s).spriteBackgroundCollisions = s.spriteBackgroundCollisions := rfl
@[simp] theorem addChange_lastRead (t : TargetValue) (s : State) : (addChange t s).lastRead = s.lastRead := rfl
@[simp] theorem addChange_lightPen (t : TargetValue) (s : State) : (addChange t s).lightPen = s.lightPen := rfl
@[simp] theorem addChange_sprites (t : TargetValue) (s : State) : (addChange t s).sprites = s.sprites := rfl
@[simp] theorem addChange_newSpriteDmaMask (t : TargetValue) (s : State) : (addChange t s).newSpriteDmaMask = s.newSpriteDmaMask := rfl
@[simp] theorem addChange_spriteDmaMask (t : TargetValue) (s : State) : (addChange t s).spriteDmaMask = s.spriteDmaMask := rfl
@[simp] theorem addChange_changes (t : TargetValue) (s : State) : (addChange t s).changes = s.changes ++ [{ triggerX := s.triggerX s.clk, assign := t }] := rfl
@[simp] theorem addChange_lineStart (t : TargetValue) (s : State) : (addChange t s).lineStart = s.lineStart := rfl
@[simp] theorem addChange_cache (t : TargetValue) (s : State) : (addChange t s).cache = s.cache := rfl
@[simp] theorem addChange_dirtyRange (t : TargetValue) (s : State) : (addChange t s).dirtyRange = s.dirtyRange := rfl
@[simp] theorem addChange_borderTop (t : TargetValue) (s : State) : (addChange t s).borderTop = s.borderTop := rfl
@[simp] theorem addChange_borderBottom (t : TargetValue) (s : State) : (addChange t s).borderBottom = s.borderBottom := rfl
@[simp] theorem addChange_verticalBorder (t : TargetValue) (s : State) : (addChange t s).verticalBorder = s.verticalBorder := rfl
@[simp] theorem addChange_ram (t : TargetValue) (s : State) : (addChange t s).ram = s.ram := rfl
@[simp] theorem addChange_chargen (t : TargetValue) (s : State) : (addChange t s).chargen = s.chargen := rfl
@[simp] theorem addChange_romh (t : TargetValue) (s : State) : (addChange t s).romh = s.romh := rfl
@[simp] theorem addChange_memoryTime (t : TargetValue) (s : State) : (addChange t s).memoryTime = s.memoryTime := rfl
@[simp] theorem addChange_ultimax (t : TargetValue) (s : State) : (addChange t s).ultimax = s.ultimax := rfl
@[simp] theorem addChange_readData (t : TargetValue) (s : State) : (addChange t s).readData = s.readData := rfl
@[simp] theorem addChange_stolenCycles (t : TargetValue) (s : State) : (addChange t s).stolenCycles = s.stolenCycles := rfl
@[simp] theorem addChange_lines (t : TargetValue) (s : State) : (addChange t s).lines = s.lines := rfl
@[simp] theorem addChange_log (t : TargetValue) (s : State) : (addChange t s).log = s.log := rfl
@[simp] theorem addChange_snapshotOut (t : TargetValue) (s : State) : (addChange t s).snapshotOut = s.snapshotOut := rfl
@[simp] theorem addChange_lineCollisions (t : TargetValue) (s : State) : (addChange t s).lineCollisions = s.lineCollisions := rfl
@[simp] theorem addChange_inbox (t : TargetValue) (s : State) : (addChange t s).inbox = s.inbox := rfl
@[simp] theorem addChange_operands (t : TargetValue) (s : State) : (addChange t s).operands = s.operands := rfl
@[simp] theorem addChange_draws (t : TargetValue) (s : State) : (addChange t s).draws = s.draws := rfl

end Sys2Proof.Machine
end

