-- ==== Sys2Proof/Laws/Ops.lean ====
section
/-! SUPPORT. For each shared operation, what it does when it answers: cited instead of unfolding it. -/

namespace Sys2Proof.Machine

/-! Outcomes and sequencing. -/

theorem answer_eq_next {r : Except Fault State} {t : State} : answer r = .next t ↔ r = .ok t := by
  cases r <;> simp [answer]

theorem answer_eq_fault {r : Except Fault State} {e : Fault} : answer r = .fault e ↔ r = .error e := by
  cases r <;> simp [answer]

theorem answer_ne_refused (r : Except Fault State) (e : Refusal) : answer r ≠ .refused e := by
  cases r <;> simp [answer]

theorem bind_eq_ok {x : Except Fault State} {f : State → Except Fault State} {t : State} :
    x.bind f = .ok t ↔ ∃ a, x = .ok a ∧ f a = .ok t := by
  cases x <;> simp [Except.bind]

theorem map_eq_ok {x : Except Fault State} {f : State → State} {t : State} :
    x.map f = .ok t ↔ ∃ a, x = .ok a ∧ f a = t := by
  cases x <;> simp [Except.map]

/-! Operations that can stop. -/

/-- `steal` of a count that is not negative moves the clock and the count, and nothing else. -/
theorem steal_ofNat (n : Nat) (s : State) :
    steal (n : Int) s = .ok { s with clk := later s.clk n, stolenCycles := s.stolenCycles + n } := by
  simp [steal]

theorem steal_ok {n : Int} {s t : State} (h : steal n s = .ok t) :
    0 ≤ n ∧ t = { s with clk := later s.clk n.toNat, stolenCycles := s.stolenCycles + n.toNat } := by
  unfold steal at h
  split at h
  · cases h
  · exact ⟨by omega, by cases h; rfl⟩

theorem fetchMatrix_ok {offset count : Int} {s t : State} (h : fetchMatrix offset count s = .ok t) :
    0 ≤ offset ∧ 0 ≤ count ∧ offset + count ≤ 40 ∧ t = fetchColumns offset.toNat count.toNat s := by
  unfold fetchMatrix at h
  split at h
  · next hr => exact ⟨hr.1, hr.2.1, hr.2.2, by cases h; rfl⟩
  · cases h

theorem fetchMatrix_ofNat (offset count : Nat) (s : State) (h : offset + count ≤ 40) :
    fetchMatrix offset count s = .ok (fetchColumns offset count s) := by
  have : (0 : Int) ≤ offset ∧ (0 : Int) ≤ count ∧ (offset : Int) + count ≤ (textCols : Int) := by
    simp [textCols]; omega
  simp [fetchMatrix, this]

/-! The deferred-change queue. -/

/-- The conditional queueing appends at most one entry. -/
theorem addChangeIf_eq (b : Bool) (t : TargetValue) (s : State) :
    addChangeIf b t s = { s with
      changes := s.changes ++ if b then [{ triggerX := s.triggerX s.clk, assign := t }] else [] } := by
  cases b
  · simp [addChangeIf]
  · rfl

/-- What the targets become after further changes. -/
theorem renderEnd_append (s : State) (l : List Change) :
    ({ s with changes := s.changes ++ l } : State).renderEnd =
      l.foldl (fun r c => RenderRegs.assign r c.assign) s.renderEnd := by
  simp [State.renderEnd]

/-- `RESOLVE_POINTERS` only appends to the queue: each pointer that differs from its value after the queue. -/
theorem resolvePointers_eq (s : State) :
    resolvePointers s = { s with
      changes := s.changes ++
        ((if s.screenAddr = s.renderEnd.screenBase then [] else [⟨s.triggerX s.clk, .screenBase s.screenAddr⟩]) ++
        ((if s.charAddr = s.renderEnd.charBase then [] else [⟨s.triggerX s.clk, .charBase s.charAddr⟩]) ++
        (if s.bitmapAddr = s.renderEnd.bitmapBase then []
          else [⟨s.triggerX s.clk, .bitmapBase s.bitmapAddr⟩]))) } := by
  have nif : ∀ {a b : Addr} (l : List Change), (if (a != b) = true then l else []) = if a = b then [] else l := by
    intro a b l; by_cases h : a = b <;> simp [h]
  have h1 : (addChangeIf (s.screenAddr != s.renderEnd.screenBase) (.screenBase s.screenAddr) s).renderEnd.charBase
      = s.renderEnd.charBase := by
    rw [addChangeIf_eq, renderEnd_append]; split <;> rfl
  have h2 : (addChangeIf (s.screenAddr != s.renderEnd.screenBase) (.screenBase s.screenAddr) s).renderEnd.bitmapBase
      = s.renderEnd.bitmapBase := by
    rw [addChangeIf_eq, renderEnd_append]; split <;> rfl
  have h3 : ∀ (b : Bool) a (u : State), (addChangeIf b (.charBase a) u).renderEnd.bitmapBase
      = u.renderEnd.bitmapBase := by
    intro b a u; rw [addChangeIf_eq, renderEnd_append]; split <;> rfl
  unfold resolvePointers
  simp only [h3, h1, h2]
  simp only [addChangeIf_eq, nif]
  simp only [State.triggerX, State.charAddr, State.bitmapAddr, State.screenAddr, State.reg, List.append_assoc]
  rfl
/-! The service loops. -/

/-- One round of the flush. -/
theorem flushLoop_succ (n wc : Nat) (s : State) :
    flushLoop (n + 1) wc s =
      if s.dueAt wc s.fetchClk = true ∧ s.fetchClk ≤ s.drawClk then (fetchAlarm s).bind (flushLoop n wc)
      else if s.dueAt wc s.drawClk then flushLoop n wc (drawAlarm s) else .ok s := by
  rw [flushLoop]
  split
  · cases fetchAlarm s <;> rfl
  · rfl

/-- One round of ADVANCE. -/
theorem advanceLoop_succ (n : Nat) (s : State) :
    advanceLoop (n + 1) s =
      let f := min s.fetchClk.toNat (min s.drawClk.toNat s.rasterIrqClk.toNat)
      if f = s.cfg.clockMax.toNat ∨ s.clk.toNat < f then .ok s
      else if s.fetchClk.toNat = f then (fetchAlarm s).bind (advanceLoop n)
      else if s.drawClk.toNat = f then advanceLoop n (drawAlarm s)
      else advanceLoop n (rasterIrqAlarm s) := by
  rw [advanceLoop]
  simp only
  split
  · rfl
  · split
    · cases fetchAlarm s <;> rfl
    · rfl

theorem serviceFuel_eq : serviceFuel = (3 * 2 ^ 32 - 1) + 1 := by decide

/-- What holds before a flush and is kept by the fetch and the draw alarm holds after it. -/
theorem flushLoop_induct {P : State → Prop} (hf : ∀ s t, P s → fetchAlarm s = .ok t → P t)
    (hd : ∀ s, P s → P (drawAlarm s)) (n wc : Nat) :
    ∀ s t, P s → flushLoop n wc s = .ok t → P t := by
  induction n with
  | zero => intro s t _ h; simp [flushLoop] at h
  | succ n ih =>
    intro s t hs h
    rw [flushLoop_succ] at h
    split at h
    · obtain ⟨a, ha, h⟩ := bind_eq_ok.1 h
      exact ih a t (hf s a hs ha) h
    · split at h
      · exact ih _ t (hd s hs) h
      · cases h; exact hs

/-- What holds before an ADVANCE and is kept by the three alarms holds after it. -/
theorem advanceLoop_induct {P : State → Prop} (hf : ∀ s t, P s → fetchAlarm s = .ok t → P t)
    (hd : ∀ s, P s → P (drawAlarm s)) (hr : ∀ s, P s → P (rasterIrqAlarm s)) (n : Nat) :
    ∀ s t, P s → advanceLoop n s = .ok t → P t := by
  induction n with
  | zero => intro s t _ h; simp [advanceLoop] at h
  | succ n ih =>
    intro s t hs h
    rw [advanceLoop_succ] at h
    simp only at h
    split at h
    · cases h; exact hs
    · split at h
      · obtain ⟨a, ha, h⟩ := bind_eq_ok.1 h
        exact ih a t (hf s a hs ha) h
      · split at h
        · exact ih _ t (hd s hs) h
        · exact ih _ t (hr s hs) h

/-- Two states that a relation joins, kept by the alarms, are joined after a flush or stop together. -/
theorem flushLoop_rel {R : State → State → Prop}
    (hq : ∀ s u, R s u → s.clk = u.clk ∧ s.fetchClk = u.fetchClk ∧ s.drawClk = u.drawClk)
    (hf : ∀ s u, R s u → (∃ e, fetchAlarm s = .error e ∧ fetchAlarm u = .error e) ∨
      ∃ a b, fetchAlarm s = .ok a ∧ fetchAlarm u = .ok b ∧ R a b)
    (hd : ∀ s u, R s u → R (drawAlarm s) (drawAlarm u)) (n wc : Nat) :
    ∀ s u, R s u → (∃ e, flushLoop n wc s = .error e ∧ flushLoop n wc u = .error e) ∨
      ∃ a b, flushLoop n wc s = .ok a ∧ flushLoop n wc u = .ok b ∧ R a b := by
  induction n with
  | zero => intro s u _; exact .inl ⟨_, rfl, rfl⟩
  | succ n ih =>
    intro s u h
    obtain ⟨h1, h2, h3⟩ := hq s u h
    have d1 : s.dueAt wc s.fetchClk = u.dueAt wc u.fetchClk := by simp only [State.dueAt, h1, h2]
    have d2 : s.dueAt wc s.drawClk = u.dueAt wc u.drawClk := by simp only [State.dueAt, h1, h3]
    have d3 : s.fetchClk ≤ s.drawClk ↔ u.fetchClk ≤ u.drawClk := by rw [h2, h3]
    rw [flushLoop_succ, flushLoop_succ]
    by_cases c1 : u.dueAt wc u.fetchClk = true ∧ u.fetchClk ≤ u.drawClk
    · rw [if_pos c1, if_pos ⟨d1.trans c1.1, d3.2 c1.2⟩]
      rcases hf s u h with ⟨e, ha, hb⟩ | ⟨a, b, ha, hb, hr⟩
      · exact .inl ⟨e, by rw [ha]; rfl, by rw [hb]; rfl⟩
      · rw [ha, hb]; exact ih a b hr
    · rw [if_neg c1, if_neg fun c => c1 ⟨d1.symm.trans c.1, d3.1 c.2⟩]
      by_cases c2 : u.dueAt wc u.drawClk = true
      · rw [if_pos c2, if_pos (d2.trans c2)]; exact ih _ _ (hd s u h)
      · rw [if_neg c2, if_neg fun c => c2 (d2.symm.trans c)]; exact .inr ⟨s, u, rfl, rfl, h⟩

/-! Masks and words. -/

theorem spriteBit_maskOf (f : SpriteNo → Bool) (i : SpriteNo) : spriteBit (maskOf f) i = f i := by
  simp only [spriteBit, maskOf, spriteNumbers, List.foldl_cons, List.foldl_nil]
  generalize h0 : f 0 = b0
  generalize h1 : f 1 = b1
  generalize h2 : f 2 = b2
  generalize h3 : f 3 = b3
  generalize h4 : f 4 = b4
  generalize h5 : f 5 = b5
  generalize h6 : f 6 = b6
  generalize h7 : f 7 = b7
  have hi : f i = (#v[b0, b1, b2, b3, b4, b5, b6, b7] : Vector Bool 8)[i] := by
    subst h0 h1 h2 h3 h4 h5 h6 h7
    revert i; intro i; fin_cases i <;> rfl
  rw [hi]
  clear hi h0 h1 h2 h3 h4 h5 h6 h7
  revert i b0 b1 b2 b3 b4 b5 b6 b7
  decide +kernel

theorem splitWord_joinWord (f : WordFields) : splitWord (joinWord f) = f := by
  obtain ⟨op, wc, addr, value⟩ := f
  simp only [splitWord, joinWord, WordFields.mk.injEq]
  refine ⟨?_, ?_, ?_, ?_⟩ <;> apply BitVec.eq_of_getLsbD_eq <;> intro i hi <;>
    simp only [BitVec.getLsbD_extractLsb', BitVec.getLsbD_append, hi, decide_true, Bool.true_and]
  · rw [if_neg (by omega), if_neg (by omega), if_neg (by omega)]; congr 1; omega
  · rw [if_neg (by omega), if_neg (by omega), if_pos (by omega)]; congr 1; omega
  · rw [if_neg (by omega), if_pos (by omega)]; congr 1; omega
  · rw [if_pos (by omega)]; congr 1; omega

theorem joinWord_splitWord (w : BusWord) : joinWord (splitWord w) = w := by
  apply BitVec.eq_of_getLsbD_eq
  intro i hi
  simp only [splitWord, joinWord, BitVec.getLsbD_append, BitVec.getLsbD_extractLsb']
  split
  · next h => simp [h]
  · split
    · next h => simp [h]; congr 1; omega
    · split
      · next h => simp [h]; congr 1; omega
      · rw [decide_eq_true (by omega : i - 8 - 6 - 2 < 2), Bool.true_and]; congr 1; omega

/-! The register map. -/

/-- A register lives at its address: `addressOf` is a right inverse of `registerAt` (30_encoding.md R64). -/
theorem registerAt_addressOf {c : Config} (h : regmapWellFormed c = true) (r : RegAddr) :
    c.registerAt (c.addressOf r) = r := by
  simp only [regmapWellFormed, Bool.and_eq_true, decide_eq_true_eq, List.all_eq_true, List.mem_range] at h
  have hr : r ∈ c.regmap := by
    have := h.1.2 r.toNat r.isLt
    simpa using this
  have hi : c.regmap.idxOf r < c.regmap.length := List.idxOf_lt_length_iff.2 hr
  have hn : (c.addressOf r).toNat = c.regmap.idxOf r := by
    simp only [Config.addressOf, BitVec.toNat_ofNat]
    exact Nat.mod_eq_of_lt (by have := h.1.1; omega)
  simp only [Config.registerAt, hn, List.getD_eq_getElem _ _ hi, List.getElem_idxOf]

/-- Under the default map each register lives at the address it is known by. -/
theorem registerAt_default {c : Config} (h : c.regmap = Config.defaultRegmap) (a : RegAddr) : c.registerAt a = a := by
  have := a.isLt
  simp [Config.registerAt, h, Config.defaultRegmap, List.getD, this]

/-- What the handlers see of a word: an EVENT word as it is; any other at the register of its address, the byte of a WRITE
with its bits from their places. -/
theorem splitWord_busWord (s : State) (w : BusWord) : splitWord (s.busWord w) =
    if (splitWord w).op = 3#2 then splitWord w
    else { splitWord w with
      addr := s.cfg.registerAt (splitWord w).addr
      value := if (splitWord w).op = 1#2 then
          s.cfg.registerByte (s.cfg.registerAt (splitWord w).addr) (splitWord w).value
        else (splitWord w).value } := by
  simp only [State.busWord]
  split
  · rfl
  · exact splitWord_joinWord _

theorem byteOfBits_getLsbD (f : Nat → Bool) {k : Nat} (hk : k < 8) : (byteOfBits f).getLsbD k = f k := by
  have all : ∀ b0 b1 b2 b3 b4 b5 b6 b7 : Bool, ∀ i : Fin 8,
      (byteOfBits fun k => [b0, b1, b2, b3, b4, b5, b6, b7].getD k false).getLsbD i.val =
        [b0, b1, b2, b3, b4, b5, b6, b7].getD i.val false := by decide +kernel
  have h := all (f 0) (f 1) (f 2) (f 3) (f 4) (f 5) (f 6) (f 7) ⟨k, hk⟩
  have e : (byteOfBits fun k => [f 0, f 1, f 2, f 3, f 4, f 5, f 6, f 7].getD k false) = byteOfBits f := rfl
  rw [e] at h
  rw [h]
  rcases k with _ | _ | _ | _ | _ | _ | _ | _ | k <;> first | rfl | omega

/-- A value that has been placed on the bus is read back from its places. -/
theorem gatherBits_placeBits {l : List Nat} (h : placesWellFormed l = true) (v : Byte) :
    gatherBits l (placeBits l v) = v := by
  simp only [placesWellFormed, Bool.and_eq_true, decide_eq_true_eq, List.all_eq_true] at h
  apply BitVec.eq_of_getLsbD_eq
  intro j hj
  have hm : j ∈ l := by simpa using h.2 j (by simpa [defaultPlaces] using hj)
  have hi : l.idxOf j < l.length := List.idxOf_lt_length_iff.2 hm
  rw [gatherBits, byteOfBits_getLsbD _ hj, placeBits, byteOfBits_getLsbD _ (by omega),
    List.getD_eq_getElem _ _ hi, List.getElem_idxOf]

/-- The value of a register survives the bus (30_encoding.md R65). -/
theorem registerByte_busByte {c : Config} (h : bitmapWellFormed c = true) (r : RegAddr) (v : Byte) :
    c.registerByte r (c.busByte r v) = v := by
  simp only [bitmapWellFormed, Bool.and_eq_true, decide_eq_true_eq] at h
  have hr : r.toNat < c.bitmap.length := by have := r.isLt; omega
  refine gatherBits_placeBits ?_ v
  rw [List.getD_eq_getElem _ _ hr]
  exact List.all_eq_true.1 h.1.1.2 _ (List.getElem_mem hr)

theorem placeBits_default : ∀ v : Byte, placeBits defaultPlaces v = v := by decide +kernel

theorem gatherBits_default : ∀ b : Byte, gatherBits defaultPlaces b = b := by decide +kernel

theorem places_default {c : Config} (h : c.bitmap = Config.defaultBitmap) (r : RegAddr) :
    c.bitmap.getD r.toNat defaultPlaces = defaultPlaces := by
  have hr : r.toNat < Config.defaultBitmap.length := r.isLt
  rw [h, List.getD_eq_getElem _ _ hr]
  exact List.eq_of_mem_replicate (List.getElem_mem hr)

/-- With the places of R65 itself the bus shows the register's byte. -/
theorem busByte_default {c : Config} (h : c.bitmap = Config.defaultBitmap) (r : RegAddr) (v : Byte) :
    c.busByte r v = v := by
  rw [Config.busByte, places_default h, placeBits_default]

theorem registerByte_default {c : Config} (h : c.bitmap = Config.defaultBitmap) (r : RegAddr) (v : Byte) :
    c.registerByte r v = v := by
  rw [Config.registerByte, places_default h, gatherBits_default]

/-- Under the default map the handlers see the word that was issued. -/
theorem busWord_default {s : State} (hr : s.cfg.regmap = Config.defaultRegmap)
    (hb : s.cfg.bitmap = Config.defaultBitmap) (w : BusWord) : s.busWord w = w := by
  simp only [State.busWord, registerAt_default hr, registerByte_default hb, ite_self]
  split
  · rfl
  · exact joinWord_splitWord w

/-- With no fetch or draw alarm due at the rolled-back time the flush serves nothing (41_scheduler.md R144). -/
theorem flush_of_quiet {wc : Nat} {s : State} (h : s.quiet wc = true) : flush wc s = .ok s := by
  simp only [State.quiet, Bool.and_eq_true, Bool.not_eq_true'] at h
  unfold flush
  rw [serviceFuel_eq, flushLoop_succ]
  simp [h.1, h.2]

/-- A register reads back the byte stored in it, every other register reads as before (10_state.md R11). -/
theorem reg_setReg (s : State) (a b : RegAddr) (v : Byte) : (s.setReg a v).reg b = if a = b then v else s.reg b := by
  by_cases h : a = b
  · subst h
    simp [State.reg, State.setReg]
  · have hn : a.toNat ≠ b.toNat := fun e => h (BitVec.eq_of_toNat_eq e)
    simp [State.reg, State.setReg, h, hn]

end Sys2Proof.Machine
end

