-- ==== Sys2Proof/Laws/Frames.lean ====
section
/-! SUPPORT. What each composite operation leaves alone: one lemma per field that it does not write, and for the
operations that can stop one lemma that names all they can write. -/

namespace Sys2Proof.Machine

/-! present -/

@[simp] theorem present_cfg (f : WordFields) (s : State) : (s.present f).cfg = s.cfg := by
  simp only [State.present, apply_ite State.cfg, ite_self]
@[simp] theorem present_clk (f : WordFields) (s : State) : (s.present f).clk = s.clk := by
  simp only [State.present, apply_ite State.clk, ite_self]
@[simp] theorem present_clkOrigin (f : WordFields) (s : State) : (s.present f).clkOrigin = s.clkOrigin := by
  simp only [State.present, apply_ite State.clkOrigin, ite_self]
@[simp] theorem present_currentLine (f : WordFields) (s : State) : (s.present f).currentLine = s.currentLine := by
  simp only [State.present, apply_ite State.currentLine, ite_self]
@[simp] theorem present_fetchClk (f : WordFields) (s : State) : (s.present f).fetchClk = s.fetchClk := by
  simp only [State.present, apply_ite State.fetchClk, ite_self]
@[simp] theorem present_drawClk (f : WordFields) (s : State) : (s.present f).drawClk = s.drawClk := by
  simp only [State.present, apply_ite State.drawClk, ite_self]
@[simp] theorem present_rasterIrqClk (f : WordFields) (s : State) : (s.present f).rasterIrqClk = s.rasterIrqClk := by
  simp only [State.present, apply_ite State.rasterIrqClk, ite_self]
@[simp] theorem present_fetchIdx (f : WordFields) (s : State) : (s.present f).fetchIdx = s.fetchIdx := by
  simp only [State.present, apply_ite State.fetchIdx, ite_self]
@[simp] theorem present_spriteFetchMsk (f : WordFields) (s : State) : (s.present f).spriteFetchMsk = s.spriteFetchMsk := by
  simp only [State.present, apply_ite State.spriteFetchMsk, ite_self]
@[simp] theorem present_spriteFetchIdx (f : WordFields) (s : State) : (s.present f).spriteFetchIdx = s.spriteFetchIdx := by
  simp only [State.present, apply_ite State.spriteFetchIdx, ite_self]
@[simp] theorem present_spriteFetchBase (f : WordFields) (s : State) : (s.present f).spriteFetchBase = s.spriteFetchBase := by
  simp only [State.present, apply_ite State.spriteFetchBase, ite_self]
@[simp] theorem present_regs (f : WordFields) (s : State) : (s.present f).regs = s.regs := by
  simp only [State.present, apply_ite State.regs, ite_self]
@[simp] theorem present_videoMode (f : WordFields) (s : State) : (s.present f).videoMode = s.videoMode := by
  simp only [State.present, apply_ite State.videoMode, ite_self]
@[simp] theorem present_idleState (f : WordFields) (s : State) : (s.present f).idleState = s.idleState := by
  simp only [State.present, apply_ite State.idleState, ite_self]
@[simp] theorem present_badLine (f : WordFields) (s : State) : (s.present f).badLine = s.badLine := by
  simp only [State.present, apply_ite State.badLine, ite_self]
@[simp] theorem present_allowBadLines (f : WordFields) (s : State) : (s.present f).allowBadLines = s.allowBadLines := by
  simp only [State.present, apply_ite State.allowBadLines, ite_self]
@[simp] theorem present_blank (f : WordFields) (s : State) : (s.present f).blank = s.blank := by
  simp only [State.present, apply_ite State.blank, ite_self]
@[simp] theorem present_forceDisplayState (f : WordFields) (s : State) : (s.present f).forceDisplayState = s.forceDisplayState := by
  simp only [State.present, apply_ite State.forceDisplayState, ite_self]
@[simp] theorem present_ycounter (f : WordFields) (s : State) : (s.present f).ycounter = s.ycounter := by
  simp only [State.present, apply_ite State.ycounter, ite_self]
@[simp] theorem present_memCounter (f : WordFields) (s : State) : (s.present f).memCounter = s.memCounter := by
  simp only [State.present, apply_ite State.memCounter, ite_self]
@[simp] theorem present_memptr (f : WordFields) (s : State) : (s.present f).memptr = s.memptr := by
  simp only [State.present, apply_ite State.memptr, ite_self]
@[simp] theorem present_memCounterInc (f : WordFields) (s : State) : (s.present f).memCounterInc = s.memCounterInc := by
  simp only [State.present, apply_ite State.memCounterInc, ite_self]
@[simp] theorem present_vbuf (f : WordFields) (s : State) : (s.present f).vbuf = s.vbuf := by
  simp only [State.present, apply_ite State.vbuf, ite_self]
@[simp] theorem present_cbuf (f : WordFields) (s : State) : (s.present f).cbuf = s.cbuf := by
  simp only [State.present, apply_ite State.cbuf, ite_self]
@[simp] theorem present_backgroundColorSource (f : WordFields) (s : State) : (s.present f).backgroundColorSource = s.backgroundColorSource := by
  simp only [State.present, apply_ite State.backgroundColorSource, ite_self]
@[simp] theorem present_idleData (f : WordFields) (s : State) : (s.present f).idleData = s.idleData := by
  simp only [State.present, apply_ite State.idleData, ite_self]
@[simp] theorem present_colorRam (f : WordFields) (s : State) : (s.present f).colorRam = s.colorRam := by
  simp only [State.present, apply_ite State.colorRam, ite_self]
@[simp] theorem present_vbankPhi1 (f : WordFields) (s : State) : (s.present f).vbankPhi1 = s.vbankPhi1 := by
  simp only [State.present, apply_ite State.vbankPhi1, ite_self]
@[simp] theorem present_vbankPhi2 (f : WordFields) (s : State) : (s.present f).vbankPhi2 = s.vbankPhi2 := by
  simp only [State.present, apply_ite State.vbankPhi2, ite_self]
@[simp] theorem present_ramBaseOffset (f : WordFields) (s : State) : (s.present f).ramBaseOffset = s.ramBaseOffset := by
  simp only [State.present, apply_ite State.ramBaseOffset, ite_self]
@[simp] theorem present_irqStatus (f : WordFields) (s : State) : (s.present f).irqStatus = s.irqStatus := by
  simp only [State.present, apply_ite State.irqStatus, ite_self]
@[simp] theorem present_rasterIrqLine (f : WordFields) (s : State) : (s.present f).rasterIrqLine = s.rasterIrqLine := by
  simp only [State.present, apply_ite State.rasterIrqLine, ite_self]
@[simp] theorem present_irqLine (f : WordFields) (s : State) : (s.present f).irqLine = s.irqLine := by
  simp only [State.present, apply_ite State.irqLine, ite_self]
@[simp] theorem present_spriteSpriteCollisions (f : WordFields) (s : State) : (s.present f).spriteSpriteCollisions = s.spriteSpriteCollisions := by
  simp only [State.present, apply_ite State.spriteSpriteCollisions, ite_self]
@[simp] theorem present_spriteBackgroundCollisions (f : WordFields) (s : State) : (s.present f).spriteBackgroundCollisions = s.spriteBackgroundCollisions := by
  simp only [State.present, apply_ite State.spriteBackgroundCollisions, ite_self]
@[simp] theorem present_lightPen (f : WordFields) (s : State) : (s.present f).lightPen = s.lightPen := by
  simp only [State.present, apply_ite State.lightPen, ite_self]
@[simp] theorem present_sprites (f : WordFields) (s : State) : (s.present f).sprites = s.sprites := by
  simp only [State.present, apply_ite State.sprites, ite_self]
@[simp] theorem present_newSpriteDmaMask (f : WordFields) (s : State) : (s.present f).newSpriteDmaMask = s.newSpriteDmaMask := by
  simp only [State.present, apply_ite State.newSpriteDmaMask, ite_self]
@[simp] theorem present_spriteDmaMask (f : WordFields) (s : State) : (s.present f).spriteDmaMask = s.spriteDmaMask := by
  simp only [State.present, apply_ite State.spriteDmaMask, ite_self]
@[simp] theorem present_changes (f : WordFields) (s : State) : (s.present f).changes = s.changes := by
  simp only [State.present, apply_ite State.changes, ite_self]
@[simp] theorem present_lineStart (f : WordFields) (s : State) : (s.present f).lineStart = s.lineStart := by
  simp only [State.present, apply_ite State.lineStart, ite_self]
@[simp] theorem present_cache (f : WordFields) (s : State) : (s.present f).cache = s.cache := by
  simp only [State.present, apply_ite State.cache, ite_self]
@[simp] theorem present_dirtyRange (f : WordFields) (s : State) : (s.present f).dirtyRange = s.dirtyRange := by
  simp only [State.present, apply_ite State.dirtyRange, ite_self]
@[simp] theorem present_borderTop (f : WordFields) (s : State) : (s.present f).borderTop = s.borderTop := by
  simp only [State.present, apply_ite State.borderTop, ite_self]
@[simp] theorem present_borderBottom (f : WordFields) (s : State) : (s.present f).borderBottom = s.borderBottom := by
  simp only [State.present, apply_ite State.borderBottom, ite_self]
@[simp] theorem present_verticalBorder (f : WordFields) (s : State) : (s.present f).verticalBorder = s.verticalBorder := by
  simp only [State.present, apply_ite State.verticalBorder, ite_self]
@[simp] theorem present_ram (f : WordFields) (s : State) : (s.present f).ram = s.ram := by
  simp only [State.present, apply_ite State.ram, ite_self]
@[simp] theorem present_chargen (f : WordFields) (s : State) : (s.present f).chargen = s.chargen := by
  simp only [State.present, apply_ite State.chargen, ite_self]
@[simp] theorem present_romh (f : WordFields) (s : State) : (s.present f).romh = s.romh := by
  simp only [State.present, apply_ite State.romh, ite_self]
@[simp] theorem present_memoryTime (f : WordFields) (s : State) : (s.present f).memoryTime = s.memoryTime := by
  simp only [State.present, apply_ite State.memoryTime, ite_self]
@[simp] theorem present_ultimax (f : WordFields) (s : State) : (s.present f).ultimax = s.ultimax := by
  simp only [State.present, apply_ite State.ultimax, ite_self]
@[simp] theorem present_stolenCycles (f : WordFields) (s : State) : (s.present f).stolenCycles = s.stolenCycles := by
  simp only [State.present, apply_ite State.stolenCycles, ite_self]
@[simp] theorem present_lines (f : WordFields) (s : State) : (s.present f).lines = s.lines := by
  simp only [State.present, apply_ite State.lines, ite_self]
@[simp] theorem present_log (f : WordFields) (s : State) : (s.present f).log = s.log := by
  simp only [State.present, apply_ite State.log, ite_self]
@[simp] theorem present_snapshotOut (f : WordFields) (s : State) : (s.present f).snapshotOut = s.snapshotOut := by
  simp only [State.present, apply_ite State.snapshotOut, ite_self]
@[simp] theorem present_lineCollisions (f : WordFields) (s : State) : (s.present f).lineCollisions = s.lineCollisions := by
  simp only [State.present, apply_ite State.lineCollisions, ite_self]
@[simp] theorem present_inbox (f : WordFields) (s : State) : (s.present f).inbox = s.inbox := by
  simp only [State.present, apply_ite State.inbox, ite_self]
@[simp] theorem present_operands (f : WordFields) (s : State) : (s.present f).operands = s.operands := by
  simp only [State.present, apply_ite State.operands, ite_self]
@[simp] theorem present_draws (f : WordFields) (s : State) : (s.present f).draws = s.draws := by
  simp only [State.present, apply_ite State.draws, ite_self]

/-! drawLine -/

@[simp] theorem drawLine_cfg (s : State) : (drawLine s).cfg = s.cfg := by
  simp only [drawLine, finishLine, updateCache, latchIdle, updateVerticalBorder]
@[simp] theorem drawLine_clk (s : State) : (drawLine s).clk = s.clk := by
  simp only [drawLine, finishLine, updateCache, latchIdle, updateVerticalBorder]
@[simp] theorem drawLine_clkOrigin (s : State) : (drawLine s).clkOrigin = s.clkOrigin := by
  simp only [drawLine, finishLine, updateCache, latchIdle, updateVerticalBorder]
@[simp] theorem drawLine_currentLine (s : State) : (drawLine s).currentLine = s.currentLine := by
  simp only [drawLine, finishLine, updateCache, latchIdle, updateVerticalBorder]
@[simp] theorem drawLine_fetchClk (s : State) : (drawLine s).fetchClk = s.fetchClk := by
  simp only [drawLine, finishLine, updateCache, latchIdle, updateVerticalBorder]
@[simp] theorem drawLine_drawClk (s : State) : (drawLine s).drawClk = s.drawClk := by
  simp only [drawLine, finishLine, updateCache, latchIdle, updateVerticalBorder]
@[simp] theorem drawLine_rasterIrqClk (s : State) : (drawLine s).rasterIrqClk = s.rasterIrqClk := by
  simp only [drawLine, finishLine, updateCache, latchIdle, updateVerticalBorder]
@[simp] theorem drawLine_fetchIdx (s : State) : (drawLine s).fetchIdx = s.fetchIdx := by
  simp only [drawLine, finishLine, updateCache, latchIdle, updateVerticalBorder]
@[simp] theorem drawLine_spriteFetchMsk (s : State) : (drawLine s).spriteFetchMsk = s.spriteFetchMsk := by
  simp only [drawLine, finishLine, updateCache, latchIdle, updateVerticalBorder]
@[simp] theorem drawLine_spriteFetchIdx (s : State) : (drawLine s).spriteFetchIdx = s.spriteFetchIdx := by
  simp only [drawLine, finishLine, updateCache, latchIdle, updateVerticalBorder]
@[simp] theorem drawLine_spriteFetchBase (s : State) : (drawLine s).spriteFetchBase = s.spriteFetchBase := by
  simp only [drawLine, finishLine, updateCache, latchIdle, updateVerticalBorder]
@[simp] theorem drawLine_regs (s : State) : (drawLine s).regs = s.regs := by
  simp only [drawLine, finishLine, updateCache, latchIdle, updateVerticalBorder]
@[simp] theorem drawLine_videoMode (s : State) : (drawLine s).videoMode = s.videoMode := by
  simp only [drawLine, finishLine, updateCache, latchIdle, updateVerticalBorder]
@[simp] theorem drawLine_idleState (s : State) : (drawLine s).idleState = s.idleState := by
  simp only [drawLine, finishLine, updateCache, latchIdle, updateVerticalBorder]
@[simp] theorem drawLine_badLine (s : State) : (drawLine s).badLine = s.badLine := by
  simp only [drawLine, finishLine, updateCache, latchIdle, updateVerticalBorder]
@[simp] theorem drawLine_allowBadLines (s : State) : (drawLine s).allowBadLines = s.allowBadLines := by
  simp only [drawLine, finishLine, updateCache, latchIdle, updateVerticalBorder]
@[simp] theorem drawLine_blank (s : State) : (drawLine s).blank = s.blank := by
  simp only [drawLine, finishLine, updateCache, latchIdle, updateVerticalBorder]
@[simp] theorem drawLine_forceDisplayState (s : State) : (drawLine s).forceDisplayState = s.forceDisplayState := by
  simp only [drawLine, finishLine, updateCache, latchIdle, updateVerticalBorder]
@[simp] theorem drawLine_ycounter (s : State) : (drawLine s).ycounter = s.ycounter := by
  simp only [drawLine, finishLine, updateCache, latchIdle, updateVerticalBorder]
@[simp] theorem drawLine_memCounter (s : State) : (drawLine s).memCounter = s.memCounter := by
  simp only [drawLine, finishLine, updateCache, latchIdle, updateVerticalBorder]
@[simp] theorem drawLine_memptr (s : State) : (drawLine s).memptr = s.memptr := by
  simp only [drawLine, finishLine, updateCache, latchIdle, updateVerticalBorder]
@[simp] theorem drawLine_memCounterInc (s : State) : (drawLine s).memCounterInc = s.memCounterInc := by
  simp only [drawLine, finishLine, updateCache, latchIdle, updateVerticalBorder]
@[simp] theorem drawLine_vbuf (s : State) : (drawLine s).vbuf = s.vbuf := by
  simp only [drawLine, finishLine, updateCache, latchIdle, updateVerticalBorder]
@[simp] theorem drawLine_cbuf (s : State) : (drawLine s).cbuf = s.cbuf := by
  simp only [drawLine, finishLine, updateCache, latchIdle, updateVerticalBorder]
@[simp] theorem drawLine_backgroundColorSource (s : State) : (drawLine s).backgroundColorSource = s.backgroundColorSource := by
  simp only [drawLine, finishLine, updateCache, latchIdle, updateVerticalBorder]
@[simp] theorem drawLine_colorRam (s : State) : (drawLine s).colorRam = s.colorRam := by
  simp only [drawLine, finishLine, updateCache, latchIdle, updateVerticalBorder]
@[simp] theorem drawLine_vbankPhi1 (s : State) : (drawLine s).vbankPhi1 = s.vbankPhi1 := by
  simp only [drawLine, finishLine, updateCache, latchIdle, updateVerticalBorder]
@[simp] theorem drawLine_vbankPhi2 (s : State) : (drawLine s).vbankPhi2 = s.vbankPhi2 := by
  simp only [drawLine, finishLine, updateCache, latchIdle, updateVerticalBorder]
@[simp] theorem drawLine_ramBaseOffset (s : State) : (drawLine s).ramBaseOffset = s.ramBaseOffset := by
  simp only [drawLine, finishLine, updateCache, latchIdle, updateVerticalBorder]
@[simp] theorem drawLine_irqStatus (s : State) : (drawLine s).irqStatus = s.irqStatus := by
  simp only [drawLine, finishLine, updateCache, latchIdle, updateVerticalBorder]
@[simp] theorem drawLine_rasterIrqLine (s : State) : (drawLine s).rasterIrqLine = s.rasterIrqLine := by
  simp only [drawLine, finishLine, updateCache, latchIdle, updateVerticalBorder]
@[simp] theorem drawLine_irqLine (s : State) : (drawLine s).irqLine = s.irqLine := by
  simp only [drawLine, finishLine, updateCache, latchIdle, updateVerticalBorder]
@[simp] theorem drawLine_spriteSpriteCollisions (s : State) : (drawLine s).spriteSpriteCollisions = s.spriteSpriteCollisions := by
  simp only [drawLine, finishLine, updateCache, latchIdle, updateVerticalBorder]
@[simp] theorem drawLine_spriteBackgroundCollisions (s : State) : (drawLine s).spriteBackgroundCollisions = s.spriteBackgroundCollisions := by
  simp only [drawLine, finishLine, updateCache, latchIdle, updateVerticalBorder]
@[simp] theorem drawLine_lastRead (s : State) : (drawLine s).lastRead = s.lastRead := by
  simp only [drawLine, finishLine, updateCache, latchIdle, updateVerticalBorder]
@[simp] theorem drawLine_lightPen (s : State) : (drawLine s).lightPen = s.lightPen := by
  simp only [drawLine, finishLine, updateCache, latchIdle, updateVerticalBorder]
@[simp] theorem drawLine_sprites (s : State) : (drawLine s).sprites = s.sprites := by
  simp only [drawLine, finishLine, updateCache, latchIdle, updateVerticalBorder]
@[simp] theorem drawLine_newSpriteDmaMask (s : State) : (drawLine s).newSpriteDmaMask = s.newSpriteDmaMask := by
  simp only [drawLine, finishLine, updateCache, latchIdle, updateVerticalBorder]
@[simp] theorem drawLine_spriteDmaMask (s : State) : (drawLine s).spriteDmaMask = s.spriteDmaMask := by
  simp only [drawLine, finishLine, updateCache, latchIdle, updateVerticalBorder]
@[simp] theorem drawLine_borderTop (s : State) : (drawLine s).borderTop = s.borderTop := by
  simp only [drawLine, finishLine, updateCache, latchIdle, updateVerticalBorder]
@[simp] theorem drawLine_borderBottom (s : State) : (drawLine s).borderBottom = s.borderBottom := by
  simp only [drawLine, finishLine, updateCache, latchIdle, updateVerticalBorder]
@[simp] theorem drawLine_ram (s : State) : (drawLine s).ram = s.ram := by
  simp only [drawLine, finishLine, updateCache, latchIdle, updateVerticalBorder]
@[simp] theorem drawLine_chargen (s : State) : (drawLine s).chargen = s.chargen := by
  simp only [drawLine, finishLine, updateCache, latchIdle, updateVerticalBorder]
@[simp] theorem drawLine_romh (s : State) : (drawLine s).romh = s.romh := by
  simp only [drawLine, finishLine, updateCache, latchIdle, updateVerticalBorder]
@[simp] theorem drawLine_memoryTime (s : State) : (drawLine s).memoryTime = s.memoryTime := by
  simp only [drawLine, finishLine, updateCache, latchIdle, updateVerticalBorder]
@[simp] theorem drawLine_ultimax (s : State) : (drawLine s).ultimax = s.ultimax := by
  simp only [drawLine, finishLine, updateCache, latchIdle, updateVerticalBorder]
@[simp] theorem drawLine_readData (s : State) : (drawLine s).readData = s.readData := by
  simp only [drawLine, finishLine, updateCache, latchIdle, updateVerticalBorder]
@[simp] theorem drawLine_stolenCycles (s : State) : (drawLine s).stolenCycles = s.stolenCycles := by
  simp only [drawLine, finishLine, updateCache, latchIdle, updateVerticalBorder]
@[simp] theorem drawLine_log (s : State) : (drawLine s).log = s.log := by
  simp only [drawLine, finishLine, updateCache, latchIdle, updateVerticalBorder]
@[simp] theorem drawLine_snapshotOut (s : State) : (drawLine s).snapshotOut = s.snapshotOut := by
  simp only [drawLine, finishLine, updateCache, latchIdle, updateVerticalBorder]
@[simp] theorem drawLine_inbox (s : State) : (drawLine s).inbox = s.inbox := by
  simp only [drawLine, finishLine, updateCache, latchIdle, updateVerticalBorder]
@[simp] theorem drawLine_operands (s : State) : (drawLine s).operands = s.operands := by
  simp only [drawLine, finishLine, updateCache, latchIdle, updateVerticalBorder]
@[simp] theorem drawLine_draws (s : State) : (drawLine s).draws = s.draws := by
  simp only [drawLine, finishLine, updateCache, latchIdle, updateVerticalBorder]

/-! spriteSpriteIrq -/

@[simp] theorem spriteSpriteIrq_cfg (m : Byte) (s : State) : (spriteSpriteIrq m s).cfg = s.cfg := by
  simp only [spriteSpriteIrq, raiseIrq, updateIrqLine, apply_ite State.cfg, ite_self]
@[simp] theorem spriteSpriteIrq_clk (m : Byte) (s : State) : (spriteSpriteIrq m s).clk = s.clk := by
  simp only [spriteSpriteIrq, raiseIrq, updateIrqLine, apply_ite State.clk, ite_self]
@[simp] theorem spriteSpriteIrq_clkOrigin (m : Byte) (s : State) : (spriteSpriteIrq m s).clkOrigin = s.clkOrigin := by
  simp only [spriteSpriteIrq, raiseIrq, updateIrqLine, apply_ite State.clkOrigin, ite_self]
@[simp] theorem spriteSpriteIrq_currentLine (m : Byte) (s : State) : (spriteSpriteIrq m s).currentLine = s.currentLine := by
  simp only [spriteSpriteIrq, raiseIrq, updateIrqLine, apply_ite State.currentLine, ite_self]
@[simp] theorem spriteSpriteIrq_fetchClk (m : Byte) (s : State) : (spriteSpriteIrq m s).fetchClk = s.fetchClk := by
  simp only [spriteSpriteIrq, raiseIrq, updateIrqLine, apply_ite State.fetchClk, ite_self]
@[simp] theorem spriteSpriteIrq_drawClk (m : Byte) (s : State) : (spriteSpriteIrq m s).drawClk = s.drawClk := by
  simp only [spriteSpriteIrq, raiseIrq, updateIrqLine, apply_ite State.drawClk, ite_self]
@[simp] theorem spriteSpriteIrq_rasterIrqClk (m : Byte) (s : State) : (spriteSpriteIrq m s).rasterIrqClk = s.rasterIrqClk := by
  simp only [spriteSpriteIrq, raiseIrq, updateIrqLine, apply_ite State.rasterIrqClk, ite_self]
@[simp] theorem spriteSpriteIrq_fetchIdx (m : Byte) (s : State) : (spriteSpriteIrq m s).fetchIdx = s.fetchIdx := by
  simp only [spriteSpriteIrq, raiseIrq, updateIrqLine, apply_ite State.fetchIdx, ite_self]
@[simp] theorem spriteSpriteIrq_spriteFetchMsk (m : Byte) (s : State) : (spriteSpriteIrq m s).spriteFetchMsk = s.spriteFetchMsk := by
  simp only [spriteSpriteIrq, raiseIrq, updateIrqLine, apply_ite State.spriteFetchMsk, ite_self]
@[simp] theorem spriteSpriteIrq_spriteFetchIdx (m : Byte) (s : State) : (spriteSpriteIrq m s).spriteFetchIdx = s.spriteFetchIdx := by
  simp only [spriteSpriteIrq, raiseIrq, updateIrqLine, apply_ite State.spriteFetchIdx, ite_self]
@[simp] theorem spriteSpriteIrq_spriteFetchBase (m : Byte) (s : State) : (spriteSpriteIrq m s).spriteFetchBase = s.spriteFetchBase := by
  simp only [spriteSpriteIrq, raiseIrq, updateIrqLine, apply_ite State.spriteFetchBase, ite_self]
@[simp] theorem spriteSpriteIrq_regs (m : Byte) (s : State) : (spriteSpriteIrq m s).regs = s.regs := by
  simp only [spriteSpriteIrq, raiseIrq, updateIrqLine, apply_ite State.regs, ite_self]
@[simp] theorem spriteSpriteIrq_videoMode (m : Byte) (s : State) : (spriteSpriteIrq m s).videoMode = s.videoMode := by
  simp only [spriteSpriteIrq, raiseIrq, updateIrqLine, apply_ite State.videoMode, ite_self]
@[simp] theorem spriteSpriteIrq_idleState (m : Byte) (s : State) : (spriteSpriteIrq m s).idleState = s.idleState := by
  simp only [spriteSpriteIrq, raiseIrq, updateIrqLine, apply_ite State.idleState, ite_self]
@[simp] theorem spriteSpriteIrq_badLine (m : Byte) (s : State) : (spriteSpriteIrq m s).badLine = s.badLine := by
  simp only [spriteSpriteIrq, raiseIrq, updateIrqLine, apply_ite State.badLine, ite_self]
@[simp] theorem spriteSpriteIrq_allowBadLines (m : Byte) (s : State) : (spriteSpriteIrq m s).allowBadLines = s.allowBadLines := by
  simp only [spriteSpriteIrq, raiseIrq, updateIrqLine, apply_ite State.allowBadLines, ite_self]
@[simp] theorem spriteSpriteIrq_blank (m : Byte) (s : State) : (spriteSpriteIrq m s).blank = s.blank := by
  simp only [spriteSpriteIrq, raiseIrq, updateIrqLine, apply_ite State.blank, ite_self]
@[simp] theorem spriteSpriteIrq_forceDisplayState (m : Byte) (s : State) : (spriteSpriteIrq m s).forceDisplayState = s.forceDisplayState := by
  simp only [spriteSpriteIrq, raiseIrq, updateIrqLine, apply_ite State.forceDisplayState, ite_self]
@[simp] theorem spriteSpriteIrq_ycounter (m : Byte) (s : State) : (spriteSpriteIrq m s).ycounter = s.ycounter := by
  simp only [spriteSpriteIrq, raiseIrq, updateIrqLine, apply_ite State.ycounter, ite_self]
@[simp] theorem spriteSpriteIrq_memCounter (m : Byte) (s : State) : (spriteSpriteIrq m s).memCounter = s.memCounter := by
  simp only [spriteSpriteIrq, raiseIrq, updateIrqLine, apply_ite State.memCounter, ite_self]
@[simp] theorem spriteSpriteIrq_memptr (m : Byte) (s : State) : (spriteSpriteIrq m s).memptr = s.memptr := by
  simp only [spriteSpriteIrq, raiseIrq, updateIrqLine, apply_ite State.memptr, ite_self]
@[simp] theorem spriteSpriteIrq_memCounterInc (m : Byte) (s : State) : (spriteSpriteIrq m s).memCounterInc = s.memCounterInc := by
  simp only [spriteSpriteIrq, raiseIrq, updateIrqLine, apply_ite State.memCounterInc, ite_self]
@[simp] theorem spriteSpriteIrq_vbuf (m : Byte) (s : State) : (spriteSpriteIrq m s).vbuf = s.vbuf := by
  simp only [spriteSpriteIrq, raiseIrq, updateIrqLine, apply_ite State.vbuf, ite_self]
@[simp] theorem spriteSpriteIrq_cbuf (m : Byte) (s : State) : (spriteSpriteIrq m s).cbuf = s.cbuf := by
  simp only [spriteSpriteIrq, raiseIrq, updateIrqLine, apply_ite State.cbuf, ite_self]
@[simp] theorem spriteSpriteIrq_backgroundColorSource (m : Byte) (s : State) : (spriteSpriteIrq m s).backgroundColorSource = s.backgroundColorSource := by
  simp only [spriteSpriteIrq, raiseIrq, updateIrqLine, apply_ite State.backgroundColorSource, ite_self]
@[simp] theorem spriteSpriteIrq_idleData (m : Byte) (s : State) : (spriteSpriteIrq m s).idleData = s.idleData := by
  simp only [spriteSpriteIrq, raiseIrq, updateIrqLine, apply_ite State.idleData, ite_self]
@[simp] theorem spriteSpriteIrq_colorRam (m : Byte) (s : State) : (spriteSpriteIrq m s).colorRam = s.colorRam := by
  simp only [spriteSpriteIrq, raiseIrq, updateIrqLine, apply_ite State.colorRam, ite_self]
@[simp] theorem spriteSpriteIrq_vbankPhi1 (m : Byte) (s : State) : (spriteSpriteIrq m s).vbankPhi1 = s.vbankPhi1 := by
  simp only [spriteSpriteIrq, raiseIrq, updateIrqLine, apply_ite State.vbankPhi1, ite_self]
@[simp] theorem spriteSpriteIrq_vbankPhi2 (m : Byte) (s : State) : (spriteSpriteIrq m s).vbankPhi2 = s.vbankPhi2 := by
  simp only [spriteSpriteIrq, raiseIrq, updateIrqLine, apply_ite State.vbankPhi2, ite_self]
@[simp] theorem spriteSpriteIrq_ramBaseOffset (m : Byte) (s : State) : (spriteSpriteIrq m s).ramBaseOffset = s.ramBaseOffset := by
  simp only [spriteSpriteIrq, raiseIrq, updateIrqLine, apply_ite State.ramBaseOffset, ite_self]
@[simp] theorem spriteSpriteIrq_rasterIrqLine (m : Byte) (s : State) : (spriteSpriteIrq m s).rasterIrqLine = s.rasterIrqLine := by
  simp only [spriteSpriteIrq, raiseIrq, updateIrqLine, apply_ite State.rasterIrqLine, ite_self]
@[simp] theorem spriteSpriteIrq_spriteBackgroundCollisions (m : Byte) (s : State) : (spriteSpriteIrq m s).spriteBackgroundCollisions = s.spriteBackgroundCollisions := by
  simp only [spriteSpriteIrq, raiseIrq, updateIrqLine, apply_ite State.spriteBackgroundCollisions, ite_self]
@[simp] theorem spriteSpriteIrq_lastRead (m : Byte) (s : State) : (spriteSpriteIrq m s).lastRead = s.lastRead := by
  simp only [spriteSpriteIrq, raiseIrq, updateIrqLine, apply_ite State.lastRead, ite_self]
@[simp] theorem spriteSpriteIrq_lightPen (m : Byte) (s : State) : (spriteSpriteIrq m s).lightPen = s.lightPen := by
  simp only [spriteSpriteIrq, raiseIrq, updateIrqLine, apply_ite State.lightPen, ite_self]
@[simp] theorem spriteSpriteIrq_sprites (m : Byte) (s : State) : (spriteSpriteIrq m s).sprites = s.sprites := by
  simp only [spriteSpriteIrq, raiseIrq, updateIrqLine, apply_ite State.sprites, ite_self]
@[simp] theorem spriteSpriteIrq_newSpriteDmaMask (m : Byte) (s : State) : (spriteSpriteIrq m s).newSpriteDmaMask = s.newSpriteDmaMask := by
  simp only [spriteSpriteIrq, raiseIrq, updateIrqLine, apply_ite State.newSpriteDmaMask, ite_self]
@[simp] theorem spriteSpriteIrq_spriteDmaMask (m : Byte) (s : State) : (spriteSpriteIrq m s).spriteDmaMask = s.spriteDmaMask := by
  simp only [spriteSpriteIrq, raiseIrq, updateIrqLine, apply_ite State.spriteDmaMask, ite_self]
@[simp] theorem spriteSpriteIrq_changes (m : Byte) (s : State) : (spriteSpriteIrq m s).changes = s.changes := by
  simp only [spriteSpriteIrq, raiseIrq, updateIrqLine, apply_ite State.changes, ite_self]
@[simp] theorem spriteSpriteIrq_lineStart (m : Byte) (s : State) : (spriteSpriteIrq m s).lineStart = s.lineStart := by
  simp only [spriteSpriteIrq, raiseIrq, updateIrqLine, apply_ite State.lineStart, ite_self]
@[simp] theorem spriteSpriteIrq_cache (m : Byte) (s : State) : (spriteSpriteIrq m s).cache = s.cache := by
  simp only [spriteSpriteIrq, raiseIrq, updateIrqLine, apply_ite State.cache, ite_self]
@[simp] theorem spriteSpriteIrq_dirtyRange (m : Byte) (s : State) : (spriteSpriteIrq m s).dirtyRange = s.dirtyRange := by
  simp only [spriteSpriteIrq, raiseIrq, updateIrqLine, apply_ite State.dirtyRange, ite_self]
@[simp] theorem spriteSpriteIrq_borderTop (m : Byte) (s : State) : (spriteSpriteIrq m s).borderTop = s.borderTop := by
  simp only [spriteSpriteIrq, raiseIrq, updateIrqLine, apply_ite State.borderTop, ite_self]
@[simp] theorem spriteSpriteIrq_borderBottom (m : Byte) (s : State) : (spriteSpriteIrq m s).borderBottom = s.borderBottom := by
  simp only [spriteSpriteIrq, raiseIrq, updateIrqLine, apply_ite State.borderBottom, ite_self]
@[simp] theorem spriteSpriteIrq_verticalBorder (m : Byte) (s : State) : (spriteSpriteIrq m s).verticalBorder = s.verticalBorder := by
  simp only [spriteSpriteIrq, raiseIrq, updateIrqLine, apply_ite State.verticalBorder, ite_self]
@[simp] theorem spriteSpriteIrq_ram (m : Byte) (s : State) : (spriteSpriteIrq m s).ram = s.ram := by
  simp only [spriteSpriteIrq, raiseIrq, updateIrqLine, apply_ite State.ram, ite_self]
@[simp] theorem spriteSpriteIrq_chargen (m : Byte) (s : State) : (spriteSpriteIrq m s).chargen = s.chargen := by
  simp only [spriteSpriteIrq, raiseIrq, updateIrqLine, apply_ite State.chargen, ite_self]
@[simp] theorem spriteSpriteIrq_romh (m : Byte) (s : State) : (spriteSpriteIrq m s).romh = s.romh := by
  simp only [spriteSpriteIrq, raiseIrq, updateIrqLine, apply_ite State.romh, ite_self]
@[simp] theorem spriteSpriteIrq_memoryTime (m : Byte) (s : State) : (spriteSpriteIrq m s).memoryTime = s.memoryTime := by
  simp only [spriteSpriteIrq, raiseIrq, updateIrqLine, apply_ite State.memoryTime, ite_self]
@[simp] theorem spriteSpriteIrq_ultimax (m : Byte) (s : State) : (spriteSpriteIrq m s).ultimax = s.ultimax := by
  simp only [spriteSpriteIrq, raiseIrq, updateIrqLine, apply_ite State.ultimax, ite_self]
@[simp] theorem spriteSpriteIrq_readData (m : Byte) (s : State) : (spriteSpriteIrq m s).readData = s.readData := by
  simp only [spriteSpriteIrq, raiseIrq, updateIrqLine, apply_ite State.readData, ite_self]
@[simp] theorem spriteSpriteIrq_stolenCycles (m : Byte) (s : State) : (spriteSpriteIrq m s).stolenCycles = s.stolenCycles := by
  simp only [spriteSpriteIrq, raiseIrq, updateIrqLine, apply_ite State.stolenCycles, ite_self]
@[simp] theorem spriteSpriteIrq_lines (m : Byte) (s : State) : (spriteSpriteIrq m s).lines = s.lines := by
  simp only [spriteSpriteIrq, raiseIrq, updateIrqLine, apply_ite State.lines, ite_self]
@[simp] theorem spriteSpriteIrq_log (m : Byte) (s : State) : (spriteSpriteIrq m s).log = s.log := by
  simp only [spriteSpriteIrq, raiseIrq, updateIrqLine, apply_ite State.log, ite_self]
@[simp] theorem spriteSpriteIrq_snapshotOut (m : Byte) (s : State) : (spriteSpriteIrq m s).snapshotOut = s.snapshotOut := by
  simp only [spriteSpriteIrq, raiseIrq, updateIrqLine, apply_ite State.snapshotOut, ite_self]
@[simp] theorem spriteSpriteIrq_lineCollisions (m : Byte) (s : State) : (spriteSpriteIrq m s).lineCollisions = s.lineCollisions := by
  simp only [spriteSpriteIrq, raiseIrq, updateIrqLine, apply_ite State.lineCollisions, ite_self]
@[simp] theorem spriteSpriteIrq_inbox (m : Byte) (s : State) : (spriteSpriteIrq m s).inbox = s.inbox := by
  simp only [spriteSpriteIrq, raiseIrq, updateIrqLine, apply_ite State.inbox, ite_self]
@[simp] theorem spriteSpriteIrq_operands (m : Byte) (s : State) : (spriteSpriteIrq m s).operands = s.operands := by
  simp only [spriteSpriteIrq, raiseIrq, updateIrqLine, apply_ite State.operands, ite_self]
@[simp] theorem spriteSpriteIrq_draws (m : Byte) (s : State) : (spriteSpriteIrq m s).draws = s.draws := by
  simp only [spriteSpriteIrq, raiseIrq, updateIrqLine, apply_ite State.draws, ite_self]

/-! spriteBackgroundIrq -/

@[simp] theorem spriteBackgroundIrq_cfg (m : Byte) (s : State) : (spriteBackgroundIrq m s).cfg = s.cfg := by
  simp only [spriteBackgroundIrq, raiseIrq, updateIrqLine, apply_ite State.cfg, ite_self]
@[simp] theorem spriteBackgroundIrq_clk (m : Byte) (s : State) : (spriteBackgroundIrq m s).clk = s.clk := by
  simp only [spriteBackgroundIrq, raiseIrq, updateIrqLine, apply_ite State.clk, ite_self]
@[simp] theorem spriteBackgroundIrq_clkOrigin (m : Byte) (s : State) : (spriteBackgroundIrq m s).clkOrigin = s.clkOrigin := by
  simp only [spriteBackgroundIrq, raiseIrq, updateIrqLine, apply_ite State.clkOrigin, ite_self]
@[simp] theorem spriteBackgroundIrq_currentLine (m : Byte) (s : State) : (spriteBackgroundIrq m s).currentLine = s.currentLine := by
  simp only [spriteBackgroundIrq, raiseIrq, updateIrqLine, apply_ite State.currentLine, ite_self]
@[simp] theorem spriteBackgroundIrq_fetchClk (m : Byte) (s : State) : (spriteBackgroundIrq m s).fetchClk = s.fetchClk := by
  simp only [spriteBackgroundIrq, raiseIrq, updateIrqLine, apply_ite State.fetchClk, ite_self]
@[simp] theorem spriteBackgroundIrq_drawClk (m : Byte) (s : State) : (spriteBackgroundIrq m s).drawClk = s.drawClk := by
  simp only [spriteBackgroundIrq, raiseIrq, updateIrqLine, apply_ite State.drawClk, ite_self]
@[simp] theorem spriteBackgroundIrq_rasterIrqClk (m : Byte) (s : State) : (spriteBackgroundIrq m s).rasterIrqClk = s.rasterIrqClk := by
  simp only [spriteBackgroundIrq, raiseIrq, updateIrqLine, apply_ite State.rasterIrqClk, ite_self]
@[simp] theorem spriteBackgroundIrq_fetchIdx (m : Byte) (s : State) : (spriteBackgroundIrq m s).fetchIdx = s.fetchIdx := by
  simp only [spriteBackgroundIrq, raiseIrq, updateIrqLine, apply_ite State.fetchIdx, ite_self]
@[simp] theorem spriteBackgroundIrq_spriteFetchMsk (m : Byte) (s : State) : (spriteBackgroundIrq m s).spriteFetchMsk = s.spriteFetchMsk := by
  simp only [spriteBackgroundIrq, raiseIrq, updateIrqLine, apply_ite State.spriteFetchMsk, ite_self]
@[simp] theorem spriteBackgroundIrq_spriteFetchIdx (m : Byte) (s : State) : (spriteBackgroundIrq m s).spriteFetchIdx = s.spriteFetchIdx := by
  simp only [spriteBackgroundIrq, raiseIrq, updateIrqLine, apply_ite State.spriteFetchIdx, ite_self]
@[simp] theorem spriteBackgroundIrq_spriteFetchBase (m : Byte) (s : State) : (spriteBackgroundIrq m s).spriteFetchBase = s.spriteFetchBase := by
  simp only [spriteBackgroundIrq, raiseIrq, updateIrqLine, apply_ite State.spriteFetchBase, ite_self]
@[simp] theorem spriteBackgroundIrq_regs (m : Byte) (s : State) : (spriteBackgroundIrq m s).regs = s.regs := by
  simp only [spriteBackgroundIrq, raiseIrq, updateIrqLine, apply_ite State.regs, ite_self]
@[simp] theorem spriteBackgroundIrq_videoMode (m : Byte) (s : State) : (spriteBackgroundIrq m s).videoMode = s.videoMode := by
  simp only [spriteBackgroundIrq, raiseIrq, updateIrqLine, apply_ite State.videoMode, ite_self]
@[simp] theorem spriteBackgroundIrq_idleState (m : Byte) (s : State) : (spriteBackgroundIrq m s).idleState = s.idleState := by
  simp only [spriteBackgroundIrq, raiseIrq, updateIrqLine, apply_ite State.idleState, ite_self]
@[simp] theorem spriteBackgroundIrq_badLine (m : Byte) (s : State) : (spriteBackgroundIrq m s).badLine = s.badLine := by
  simp only [spriteBackgroundIrq, raiseIrq, updateIrqLine, apply_ite State.badLine, ite_self]
@[simp] theorem spriteBackgroundIrq_allowBadLines (m : Byte) (s : State) : (spriteBackgroundIrq m s).allowBadLines = s.allowBadLines := by
  simp only [spriteBackgroundIrq, raiseIrq, updateIrqLine, apply_ite State.allowBadLines, ite_self]
@[simp] theorem spriteBackgroundIrq_blank (m : Byte) (s : State) : (spriteBackgroundIrq m s).blank = s.blank := by
  simp only [spriteBackgroundIrq, raiseIrq, updateIrqLine, apply_ite State.blank, ite_self]
@[simp] theorem spriteBackgroundIrq_forceDisplayState (m : Byte) (s : State) : (spriteBackgroundIrq m s).forceDisplayState = s.forceDisplayState := by
  simp only [spriteBackgroundIrq, raiseIrq, updateIrqLine, apply_ite State.forceDisplayState, ite_self]
@[simp] theorem spriteBackgroundIrq_ycounter (m : Byte) (s : State) : (spriteBackgroundIrq m s).ycounter = s.ycounter := by
  simp only [spriteBackgroundIrq, raiseIrq, updateIrqLine, apply_ite State.ycounter, ite_self]
@[simp] theorem spriteBackgroundIrq_memCounter (m : Byte) (s : State) : (spriteBackgroundIrq m s).memCounter = s.memCounter := by
  simp only [spriteBackgroundIrq, raiseIrq, updateIrqLine, apply_ite State.memCounter, ite_self]
@[simp] theorem spriteBackgroundIrq_memptr (m : Byte) (s : State) : (spriteBackgroundIrq m s).memptr = s.memptr := by
  simp only [spriteBackgroundIrq, raiseIrq, updateIrqLine, apply_ite State.memptr, ite_self]
@[simp] theorem spriteBackgroundIrq_memCounterInc (m : Byte) (s : State) : (spriteBackgroundIrq m s).memCounterInc = s.memCounterInc := by
  simp only [spriteBackgroundIrq, raiseIrq, updateIrqLine, apply_ite State.memCounterInc, ite_self]
@[simp] theorem spriteBackgroundIrq_vbuf (m : Byte) (s : State) : (spriteBackgroundIrq m s).vbuf = s.vbuf := by
  simp only [spriteBackgroundIrq, raiseIrq, updateIrqLine, apply_ite State.vbuf, ite_self]
@[simp] theorem spriteBackgroundIrq_cbuf (m : Byte) (s : State) : (spriteBackgroundIrq m s).cbuf = s.cbuf := by
  simp only [spriteBackgroundIrq, raiseIrq, updateIrqLine, apply_ite State.cbuf, ite_self]
@[simp] theorem spriteBackgroundIrq_backgroundColorSource (m : Byte) (s : State) : (spriteBackgroundIrq m s).backgroundColorSource = s.backgroundColorSource := by
  simp only [spriteBackgroundIrq, raiseIrq, updateIrqLine, apply_ite State.backgroundColorSource, ite_self]
@[simp] theorem spriteBackgroundIrq_idleData (m : Byte) (s : State) : (spriteBackgroundIrq m s).idleData = s.idleData := by
  simp only [spriteBackgroundIrq, raiseIrq, updateIrqLine, apply_ite State.idleData, ite_self]
@[simp] theorem spriteBackgroundIrq_colorRam (m : Byte) (s : State) : (spriteBackgroundIrq m s).colorRam = s.colorRam := by
  simp only [spriteBackgroundIrq, raiseIrq, updateIrqLine, apply_ite State.colorRam, ite_self]
@[simp] theorem spriteBackgroundIrq_vbankPhi1 (m : Byte) (s : State) : (spriteBackgroundIrq m s).vbankPhi1 = s.vbankPhi1 := by
  simp only [spriteBackgroundIrq, raiseIrq, updateIrqLine, apply_ite State.vbankPhi1, ite_self]
@[simp] theorem spriteBackgroundIrq_vbankPhi2 (m : Byte) (s : State) : (spriteBackgroundIrq m s).vbankPhi2 = s.vbankPhi2 := by
  simp only [spriteBackgroundIrq, raiseIrq, updateIrqLine, apply_ite State.vbankPhi2, ite_self]
@[simp] theorem spriteBackgroundIrq_ramBaseOffset (m : Byte) (s : State) : (spriteBackgroundIrq m s).ramBaseOffset = s.ramBaseOffset := by
  simp only [spriteBackgroundIrq, raiseIrq, updateIrqLine, apply_ite State.ramBaseOffset, ite_self]
@[simp] theorem spriteBackgroundIrq_rasterIrqLine (m : Byte) (s : State) : (spriteBackgroundIrq m s).rasterIrqLine = s.rasterIrqLine := by
  simp only [spriteBackgroundIrq, raiseIrq, updateIrqLine, apply_ite State.rasterIrqLine, ite_self]
@[simp] theorem spriteBackgroundIrq_spriteSpriteCollisions (m : Byte) (s : State) : (spriteBackgroundIrq m s).spriteSpriteCollisions = s.spriteSpriteCollisions := by
  simp only [spriteBackgroundIrq, raiseIrq, updateIrqLine, apply_ite State.spriteSpriteCollisions, ite_self]
@[simp] theorem spriteBackgroundIrq_lastRead (m : Byte) (s : State) : (spriteBackgroundIrq m s).lastRead = s.lastRead := by
  simp only [spriteBackgroundIrq, raiseIrq, updateIrqLine, apply_ite State.lastRead, ite_self]
@[simp] theorem spriteBackgroundIrq_lightPen (m : Byte) (s : State) : (spriteBackgroundIrq m s).lightPen = s.lightPen := by
  simp only [spriteBackgroundIrq, raiseIrq, updateIrqLine, apply_ite State.lightPen, ite_self]
@[simp] theorem spriteBackgroundIrq_sprites (m : Byte) (s : State) : (spriteBackgroundIrq m s).sprites = s.sprites := by
  simp only [spriteBackgroundIrq, raiseIrq, updateIrqLine, apply_ite State.sprites, ite_self]
@[simp] theorem spriteBackgroundIrq_newSpriteDmaMask (m : Byte) (s : State) : (spriteBackgroundIrq m s).newSpriteDmaMask = s.newSpriteDmaMask := by
  simp only [spriteBackgroundIrq, raiseIrq, updateIrqLine, apply_ite State.newSpriteDmaMask, ite_self]
@[simp] theorem spriteBackgroundIrq_spriteDmaMask (m : Byte) (s : State) : (spriteBackgroundIrq m s).spriteDmaMask = s.spriteDmaMask := by
  simp only [spriteBackgroundIrq, raiseIrq, updateIrqLine, apply_ite State.spriteDmaMask, ite_self]
@[simp] theorem spriteBackgroundIrq_changes (m : Byte) (s : State) : (spriteBackgroundIrq m s).changes = s.changes := by
  simp only [spriteBackgroundIrq, raiseIrq, updateIrqLine, apply_ite State.changes, ite_self]
@[simp] theorem spriteBackgroundIrq_lineStart (m : Byte) (s : State) : (spriteBackgroundIrq m s).lineStart = s.lineStart := by
  simp only [spriteBackgroundIrq, raiseIrq, updateIrqLine, apply_ite State.lineStart, ite_self]
@[simp] theorem spriteBackgroundIrq_cache (m : Byte) (s : State) : (spriteBackgroundIrq m s).cache = s.cache := by
  simp only [spriteBackgroundIrq, raiseIrq, updateIrqLine, apply_ite State.cache, ite_self]
@[simp] theorem spriteBackgroundIrq_dirtyRange (m : Byte) (s : State) : (spriteBackgroundIrq m s).dirtyRange = s.dirtyRange := by
  simp only [spriteBackgroundIrq, raiseIrq, updateIrqLine, apply_ite State.dirtyRange, ite_self]
@[simp] theorem spriteBackgroundIrq_borderTop (m : Byte) (s : State) : (spriteBackgroundIrq m s).borderTop = s.borderTop := by
  simp only [spriteBackgroundIrq, raiseIrq, updateIrqLine, apply_ite State.borderTop, ite_self]
@[simp] theorem spriteBackgroundIrq_borderBottom (m : Byte) (s : State) : (spriteBackgroundIrq m s).borderBottom = s.borderBottom := by
  simp only [spriteBackgroundIrq, raiseIrq, updateIrqLine, apply_ite State.borderBottom, ite_self]
@[simp] theorem spriteBackgroundIrq_verticalBorder (m : Byte) (s : State) : (spriteBackgroundIrq m s).verticalBorder = s.verticalBorder := by
  simp only [spriteBackgroundIrq, raiseIrq, updateIrqLine, apply_ite State.verticalBorder, ite_self]
@[simp] theorem spriteBackgroundIrq_ram (m : Byte) (s : State) : (spriteBackgroundIrq m s).ram = s.ram := by
  simp only [spriteBackgroundIrq, raiseIrq, updateIrqLine, apply_ite State.ram, ite_self]
@[simp] theorem spriteBackgroundIrq_chargen (m : Byte) (s : State) : (spriteBackgroundIrq m s).chargen = s.chargen := by
  simp only [spriteBackgroundIrq, raiseIrq, updateIrqLine, apply_ite State.chargen, ite_self]
@[simp] theorem spriteBackgroundIrq_romh (m : Byte) (s : State) : (spriteBackgroundIrq m s).romh = s.romh := by
  simp only [spriteBackgroundIrq, raiseIrq, updateIrqLine, apply_ite State.romh, ite_self]
@[simp] theorem spriteBackgroundIrq_memoryTime (m : Byte) (s : State) : (spriteBackgroundIrq m s).memoryTime = s.memoryTime := by
  simp only [spriteBackgroundIrq, raiseIrq, updateIrqLine, apply_ite State.memoryTime, ite_self]
@[simp] theorem spriteBackgroundIrq_ultimax (m : Byte) (s : State) : (spriteBackgroundIrq m s).ultimax = s.ultimax := by
  simp only [spriteBackgroundIrq, raiseIrq, updateIrqLine, apply_ite State.ultimax, ite_self]
@[simp] theorem spriteBackgroundIrq_readData (m : Byte) (s : State) : (spriteBackgroundIrq m s).readData = s.readData := by
  simp only [spriteBackgroundIrq, raiseIrq, updateIrqLine, apply_ite State.readData, ite_self]
@[simp] theorem spriteBackgroundIrq_stolenCycles (m : Byte) (s : State) : (spriteBackgroundIrq m s).stolenCycles = s.stolenCycles := by
  simp only [spriteBackgroundIrq, raiseIrq, updateIrqLine, apply_ite State.stolenCycles, ite_self]
@[simp] theorem spriteBackgroundIrq_lines (m : Byte) (s : State) : (spriteBackgroundIrq m s).lines = s.lines := by
  simp only [spriteBackgroundIrq, raiseIrq, updateIrqLine, apply_ite State.lines, ite_self]
@[simp] theorem spriteBackgroundIrq_log (m : Byte) (s : State) : (spriteBackgroundIrq m s).log = s.log := by
  simp only [spriteBackgroundIrq, raiseIrq, updateIrqLine, apply_ite State.log, ite_self]
@[simp] theorem spriteBackgroundIrq_snapshotOut (m : Byte) (s : State) : (spriteBackgroundIrq m s).snapshotOut = s.snapshotOut := by
  simp only [spriteBackgroundIrq, raiseIrq, updateIrqLine, apply_ite State.snapshotOut, ite_self]
@[simp] theorem spriteBackgroundIrq_lineCollisions (m : Byte) (s : State) : (spriteBackgroundIrq m s).lineCollisions = s.lineCollisions := by
  simp only [spriteBackgroundIrq, raiseIrq, updateIrqLine, apply_ite State.lineCollisions, ite_self]
@[simp] theorem spriteBackgroundIrq_inbox (m : Byte) (s : State) : (spriteBackgroundIrq m s).inbox = s.inbox := by
  simp only [spriteBackgroundIrq, raiseIrq, updateIrqLine, apply_ite State.inbox, ite_self]
@[simp] theorem spriteBackgroundIrq_operands (m : Byte) (s : State) : (spriteBackgroundIrq m s).operands = s.operands := by
  simp only [spriteBackgroundIrq, raiseIrq, updateIrqLine, apply_ite State.operands, ite_self]
@[simp] theorem spriteBackgroundIrq_draws (m : Byte) (s : State) : (spriteBackgroundIrq m s).draws = s.draws := by
  simp only [spriteBackgroundIrq, raiseIrq, updateIrqLine, apply_ite State.draws, ite_self]

/-! collisionIrqs -/

@[simp] theorem collisionIrqs_cfg (s : State) : (collisionIrqs s).cfg = s.cfg := by
  simp only [collisionIrqs, spriteSpriteIrq_cfg, spriteBackgroundIrq_cfg]
@[simp] theorem collisionIrqs_clk (s : State) : (collisionIrqs s).clk = s.clk := by
  simp only [collisionIrqs, spriteSpriteIrq_clk, spriteBackgroundIrq_clk]
@[simp] theorem collisionIrqs_clkOrigin (s : State) : (collisionIrqs s).clkOrigin = s.clkOrigin := by
  simp only [collisionIrqs, spriteSpriteIrq_clkOrigin, spriteBackgroundIrq_clkOrigin]
@[simp] theorem collisionIrqs_currentLine (s : State) : (collisionIrqs s).currentLine = s.currentLine := by
  simp only [collisionIrqs, spriteSpriteIrq_currentLine, spriteBackgroundIrq_currentLine]
@[simp] theorem collisionIrqs_fetchClk (s : State) : (collisionIrqs s).fetchClk = s.fetchClk := by
  simp only [collisionIrqs, spriteSpriteIrq_fetchClk, spriteBackgroundIrq_fetchClk]
@[simp] theorem collisionIrqs_drawClk (s : State) : (collisionIrqs s).drawClk = s.drawClk := by
  simp only [collisionIrqs, spriteSpriteIrq_drawClk, spriteBackgroundIrq_drawClk]
@[simp] theorem collisionIrqs_rasterIrqClk (s : State) : (collisionIrqs s).rasterIrqClk = s.rasterIrqClk := by
  simp only [collisionIrqs, spriteSpriteIrq_rasterIrqClk, spriteBackgroundIrq_rasterIrqClk]
@[simp] theorem collisionIrqs_fetchIdx (s : State) : (collisionIrqs s).fetchIdx = s.fetchIdx := by
  simp only [collisionIrqs, spriteSpriteIrq_fetchIdx, spriteBackgroundIrq_fetchIdx]
@[simp] theorem collisionIrqs_spriteFetchMsk (s : State) : (collisionIrqs s).spriteFetchMsk = s.spriteFetchMsk := by
  simp only [collisionIrqs, spriteSpriteIrq_spriteFetchMsk, spriteBackgroundIrq_spriteFetchMsk]
@[simp] theorem collisionIrqs_spriteFetchIdx (s : State) : (collisionIrqs s).spriteFetchIdx = s.spriteFetchIdx := by
  simp only [collisionIrqs, spriteSpriteIrq_spriteFetchIdx, spriteBackgroundIrq_spriteFetchIdx]
@[simp] theorem collisionIrqs_spriteFetchBase (s : State) : (collisionIrqs s).spriteFetchBase = s.spriteFetchBase := by
  simp only [collisionIrqs, spriteSpriteIrq_spriteFetchBase, spriteBackgroundIrq_spriteFetchBase]
@[simp] theorem collisionIrqs_regs (s : State) : (collisionIrqs s).regs = s.regs := by
  simp only [collisionIrqs, spriteSpriteIrq_regs, spriteBackgroundIrq_regs]
@[simp] theorem collisionIrqs_videoMode (s : State) : (collisionIrqs s).videoMode = s.videoMode := by
  simp only [collisionIrqs, spriteSpriteIrq_videoMode, spriteBackgroundIrq_videoMode]
@[simp] theorem collisionIrqs_idleState (s : State) : (collisionIrqs s).idleState = s.idleState := by
  simp only [collisionIrqs, spriteSpriteIrq_idleState, spriteBackgroundIrq_idleState]
@[simp] theorem collisionIrqs_badLine (s : State) : (collisionIrqs s).badLine = s.badLine := by
  simp only [collisionIrqs, spriteSpriteIrq_badLine, spriteBackgroundIrq_badLine]
@[simp] theorem collisionIrqs_allowBadLines (s : State) : (collisionIrqs s).allowBadLines = s.allowBadLines := by
  simp only [collisionIrqs, spriteSpriteIrq_allowBadLines, spriteBackgroundIrq_allowBadLines]
@[simp] theorem collisionIrqs_blank (s : State) : (collisionIrqs s).blank = s.blank := by
  simp only [collisionIrqs, spriteSpriteIrq_blank, spriteBackgroundIrq_blank]
@[simp] theorem collisionIrqs_forceDisplayState (s : State) : (collisionIrqs s).forceDisplayState = s.forceDisplayState := by
  simp only [collisionIrqs, spriteSpriteIrq_forceDisplayState, spriteBackgroundIrq_forceDisplayState]
@[simp] theorem collisionIrqs_ycounter (s : State) : (collisionIrqs s).ycounter = s.ycounter := by
  simp only [collisionIrqs, spriteSpriteIrq_ycounter, spriteBackgroundIrq_ycounter]
@[simp] theorem collisionIrqs_memCounter (s : State) : (collisionIrqs s).memCounter = s.memCounter := by
  simp only [collisionIrqs, spriteSpriteIrq_memCounter, spriteBackgroundIrq_memCounter]
@[simp] theorem collisionIrqs_memptr (s : State) : (collisionIrqs s).memptr = s.memptr := by
  simp only [collisionIrqs, spriteSpriteIrq_memptr, spriteBackgroundIrq_memptr]
@[simp] theorem collisionIrqs_memCounterInc (s : State) : (collisionIrqs s).memCounterInc = s.memCounterInc := by
  simp only [collisionIrqs, spriteSpriteIrq_memCounterInc, spriteBackgroundIrq_memCounterInc]
@[simp] theorem collisionIrqs_vbuf (s : State) : (collisionIrqs s).vbuf = s.vbuf := by
  simp only [collisionIrqs, spriteSpriteIrq_vbuf, spriteBackgroundIrq_vbuf]
@[simp] theorem collisionIrqs_cbuf (s : State) : (collisionIrqs s).cbuf = s.cbuf := by
  simp only [collisionIrqs, spriteSpriteIrq_cbuf, spriteBackgroundIrq_cbuf]
@[simp] theorem collisionIrqs_backgroundColorSource (s : State) : (collisionIrqs s).backgroundColorSource = s.backgroundColorSource := by
  simp only [collisionIrqs, spriteSpriteIrq_backgroundColorSource, spriteBackgroundIrq_backgroundColorSource]
@[simp] theorem collisionIrqs_idleData (s : State) : (collisionIrqs s).idleData = s.idleData := by
  simp only [collisionIrqs, spriteSpriteIrq_idleData, spriteBackgroundIrq_idleData]
@[simp] theorem collisionIrqs_colorRam (s : State) : (collisionIrqs s).colorRam = s.colorRam := by
  simp only [collisionIrqs, spriteSpriteIrq_colorRam, spriteBackgroundIrq_colorRam]
@[simp] theorem collisionIrqs_vbankPhi1 (s : State) : (collisionIrqs s).vbankPhi1 = s.vbankPhi1 := by
  simp only [collisionIrqs, spriteSpriteIrq_vbankPhi1, spriteBackgroundIrq_vbankPhi1]
@[simp] theorem collisionIrqs_vbankPhi2 (s : State) : (collisionIrqs s).vbankPhi2 = s.vbankPhi2 := by
  simp only [collisionIrqs, spriteSpriteIrq_vbankPhi2, spriteBackgroundIrq_vbankPhi2]
@[simp] theorem collisionIrqs_ramBaseOffset (s : State) : (collisionIrqs s).ramBaseOffset = s.ramBaseOffset := by
  simp only [collisionIrqs, spriteSpriteIrq_ramBaseOffset, spriteBackgroundIrq_ramBaseOffset]
@[simp] theorem collisionIrqs_rasterIrqLine (s : State) : (collisionIrqs s).rasterIrqLine = s.rasterIrqLine := by
  simp only [collisionIrqs, spriteSpriteIrq_rasterIrqLine, spriteBackgroundIrq_rasterIrqLine]
@[simp] theorem collisionIrqs_lastRead (s : State) : (collisionIrqs s).lastRead = s.lastRead := by
  simp only [collisionIrqs, spriteSpriteIrq_lastRead, spriteBackgroundIrq_lastRead]
@[simp] theorem collisionIrqs_lightPen (s : State) : (collisionIrqs s).lightPen = s.lightPen := by
  simp only [collisionIrqs, spriteSpriteIrq_lightPen, spriteBackgroundIrq_lightPen]
@[simp] theorem collisionIrqs_sprites (s : State) : (collisionIrqs s).sprites = s.sprites := by
  simp only [collisionIrqs, spriteSpriteIrq_sprites, spriteBackgroundIrq_sprites]
@[simp] theorem collisionIrqs_newSpriteDmaMask (s : State) : (collisionIrqs s).newSpriteDmaMask = s.newSpriteDmaMask := by
  simp only [collisionIrqs, spriteSpriteIrq_newSpriteDmaMask, spriteBackgroundIrq_newSpriteDmaMask]
@[simp] theorem collisionIrqs_spriteDmaMask (s : State) : (collisionIrqs s).spriteDmaMask = s.spriteDmaMask := by
  simp only [collisionIrqs, spriteSpriteIrq_spriteDmaMask, spriteBackgroundIrq_spriteDmaMask]
@[simp] theorem collisionIrqs_changes (s : State) : (collisionIrqs s).changes = s.changes := by
  simp only [collisionIrqs, spriteSpriteIrq_changes, spriteBackgroundIrq_changes]
@[simp] theorem collisionIrqs_lineStart (s : State) : (collisionIrqs s).lineStart = s.lineStart := by
  simp only [collisionIrqs, spriteSpriteIrq_lineStart, spriteBackgroundIrq_lineStart]
@[simp] theorem collisionIrqs_cache (s : State) : (collisionIrqs s).cache = s.cache := by
  simp only [collisionIrqs, spriteSpriteIrq_cache, spriteBackgroundIrq_cache]
@[simp] theorem collisionIrqs_dirtyRange (s : State) : (collisionIrqs s).dirtyRange = s.dirtyRange := by
  simp only [collisionIrqs, spriteSpriteIrq_dirtyRange, spriteBackgroundIrq_dirtyRange]
@[simp] theorem collisionIrqs_borderTop (s : State) : (collisionIrqs s).borderTop = s.borderTop := by
  simp only [collisionIrqs, spriteSpriteIrq_borderTop, spriteBackgroundIrq_borderTop]
@[simp] theorem collisionIrqs_borderBottom (s : State) : (collisionIrqs s).borderBottom = s.borderBottom := by
  simp only [collisionIrqs, spriteSpriteIrq_borderBottom, spriteBackgroundIrq_borderBottom]
@[simp] theorem collisionIrqs_verticalBorder (s : State) : (collisionIrqs s).verticalBorder = s.verticalBorder := by
  simp only [collisionIrqs, spriteSpriteIrq_verticalBorder, spriteBackgroundIrq_verticalBorder]
@[simp] theorem collisionIrqs_ram (s : State) : (collisionIrqs s).ram = s.ram := by
  simp only [collisionIrqs, spriteSpriteIrq_ram, spriteBackgroundIrq_ram]
@[simp] theorem collisionIrqs_chargen (s : State) : (collisionIrqs s).chargen = s.chargen := by
  simp only [collisionIrqs, spriteSpriteIrq_chargen, spriteBackgroundIrq_chargen]
@[simp] theorem collisionIrqs_romh (s : State) : (collisionIrqs s).romh = s.romh := by
  simp only [collisionIrqs, spriteSpriteIrq_romh, spriteBackgroundIrq_romh]
@[simp] theorem collisionIrqs_memoryTime (s : State) : (collisionIrqs s).memoryTime = s.memoryTime := by
  simp only [collisionIrqs, spriteSpriteIrq_memoryTime, spriteBackgroundIrq_memoryTime]
@[simp] theorem collisionIrqs_ultimax (s : State) : (collisionIrqs s).ultimax = s.ultimax := by
  simp only [collisionIrqs, spriteSpriteIrq_ultimax, spriteBackgroundIrq_ultimax]
@[simp] theorem collisionIrqs_readData (s : State) : (collisionIrqs s).readData = s.readData := by
  simp only [collisionIrqs, spriteSpriteIrq_readData, spriteBackgroundIrq_readData]
@[simp] theorem collisionIrqs_stolenCycles (s : State) : (collisionIrqs s).stolenCycles = s.stolenCycles := by
  simp only [collisionIrqs, spriteSpriteIrq_stolenCycles, spriteBackgroundIrq_stolenCycles]
@[simp] theorem collisionIrqs_lines (s : State) : (collisionIrqs s).lines = s.lines := by
  simp only [collisionIrqs, spriteSpriteIrq_lines, spriteBackgroundIrq_lines]
@[simp] theorem collisionIrqs_log (s : State) : (collisionIrqs s).log = s.log := by
  simp only [collisionIrqs, spriteSpriteIrq_log, spriteBackgroundIrq_log]
@[simp] theorem collisionIrqs_snapshotOut (s : State) : (collisionIrqs s).snapshotOut = s.snapshotOut := by
  simp only [collisionIrqs, spriteSpriteIrq_snapshotOut, spriteBackgroundIrq_snapshotOut]
@[simp] theorem collisionIrqs_lineCollisions (s : State) : (collisionIrqs s).lineCollisions = s.lineCollisions := by
  simp only [collisionIrqs, spriteSpriteIrq_lineCollisions, spriteBackgroundIrq_lineCollisions]
@[simp] theorem collisionIrqs_inbox (s : State) : (collisionIrqs s).inbox = s.inbox := by
  simp only [collisionIrqs, spriteSpriteIrq_inbox, spriteBackgroundIrq_inbox]
@[simp] theorem collisionIrqs_operands (s : State) : (collisionIrqs s).operands = s.operands := by
  simp only [collisionIrqs, spriteSpriteIrq_operands, spriteBackgroundIrq_operands]
@[simp] theorem collisionIrqs_draws (s : State) : (collisionIrqs s).draws = s.draws := by
  simp only [collisionIrqs, spriteSpriteIrq_draws, spriteBackgroundIrq_draws]

/-! lineCounters -/

@[simp] theorem lineCounters_cfg (s : State) : (lineCounters s).cfg = s.cfg := by
  have h1 : (advanceMatrixCounter s).cfg = s.cfg := by simp only [advanceMatrixCounter]
  have h2 : ∀ u, (endCharacterRow u).cfg = u.cfg := fun u => by simp only [endCharacterRow, apply_ite State.cfg, ite_self]
  have h3 : ∀ u, (advanceRow u).cfg = u.cfg := fun u => by simp only [advanceRow, apply_ite State.cfg, ite_self]
  simp only [lineCounters, applyForcedDisplay, apply_ite State.cfg, ite_self, h1, h2, h3]
@[simp] theorem lineCounters_clk (s : State) : (lineCounters s).clk = s.clk := by
  have h1 : (advanceMatrixCounter s).clk = s.clk := by simp only [advanceMatrixCounter]
  have h2 : ∀ u, (endCharacterRow u).clk = u.clk := fun u => by simp only [endCharacterRow, apply_ite State.clk, ite_self]
  have h3 : ∀ u, (advanceRow u).clk = u.clk := fun u => by simp only [advanceRow, apply_ite State.clk, ite_self]
  simp only [lineCounters, applyForcedDisplay, apply_ite State.clk, ite_self, h1, h2, h3]
@[simp] theorem lineCounters_clkOrigin (s : State) : (lineCounters s).clkOrigin = s.clkOrigin := by
  have h1 : (advanceMatrixCounter s).clkOrigin = s.clkOrigin := by simp only [advanceMatrixCounter]
  have h2 : ∀ u, (endCharacterRow u).clkOrigin = u.clkOrigin := fun u => by simp only [endCharacterRow, apply_ite State.clkOrigin, ite_self]
  have h3 : ∀ u, (advanceRow u).clkOrigin = u.clkOrigin := fun u => by simp only [advanceRow, apply_ite State.clkOrigin, ite_self]
  simp only [lineCounters, applyForcedDisplay, apply_ite State.clkOrigin, ite_self, h1, h2, h3]
@[simp] theorem lineCounters_currentLine (s : State) : (lineCounters s).currentLine = s.currentLine := by
  have h1 : (advanceMatrixCounter s).currentLine = s.currentLine := by simp only [advanceMatrixCounter]
  have h2 : ∀ u, (endCharacterRow u).currentLine = u.currentLine := fun u => by simp only [endCharacterRow, apply_ite State.currentLine, ite_self]
  have h3 : ∀ u, (advanceRow u).currentLine = u.currentLine := fun u => by simp only [advanceRow, apply_ite State.currentLine, ite_self]
  simp only [lineCounters, applyForcedDisplay, apply_ite State.currentLine, ite_self, h1, h2, h3]
@[simp] theorem lineCounters_fetchClk (s : State) : (lineCounters s).fetchClk = s.fetchClk := by
  have h1 : (advanceMatrixCounter s).fetchClk = s.fetchClk := by simp only [advanceMatrixCounter]
  have h2 : ∀ u, (endCharacterRow u).fetchClk = u.fetchClk := fun u => by simp only [endCharacterRow, apply_ite State.fetchClk, ite_self]
  have h3 : ∀ u, (advanceRow u).fetchClk = u.fetchClk := fun u => by simp only [advanceRow, apply_ite State.fetchClk, ite_self]
  simp only [lineCounters, applyForcedDisplay, apply_ite State.fetchClk, ite_self, h1, h2, h3]
@[simp] theorem lineCounters_drawClk (s : State) : (lineCounters s).drawClk = s.drawClk := by
  have h1 : (advanceMatrixCounter s).drawClk = s.drawClk := by simp only [advanceMatrixCounter]
  have h2 : ∀ u, (endCharacterRow u).drawClk = u.drawClk := fun u => by simp only [endCharacterRow, apply_ite State.drawClk, ite_self]
  have h3 : ∀ u, (advanceRow u).drawClk = u.drawClk := fun u => by simp only [advanceRow, apply_ite State.drawClk, ite_self]
  simp only [lineCounters, applyForcedDisplay, apply_ite State.drawClk, ite_self, h1, h2, h3]
@[simp] theorem lineCounters_rasterIrqClk (s : State) : (lineCounters s).rasterIrqClk = s.rasterIrqClk := by
  have h1 : (advanceMatrixCounter s).rasterIrqClk = s.rasterIrqClk := by simp only [advanceMatrixCounter]
  have h2 : ∀ u, (endCharacterRow u).rasterIrqClk = u.rasterIrqClk := fun u => by simp only [endCharacterRow, apply_ite State.rasterIrqClk, ite_self]
  have h3 : ∀ u, (advanceRow u).rasterIrqClk = u.rasterIrqClk := fun u => by simp only [advanceRow, apply_ite State.rasterIrqClk, ite_self]
  simp only [lineCounters, applyForcedDisplay, apply_ite State.rasterIrqClk, ite_self, h1, h2, h3]
@[simp] theorem lineCounters_fetchIdx (s : State) : (lineCounters s).fetchIdx = s.fetchIdx := by
  have h1 : (advanceMatrixCounter s).fetchIdx = s.fetchIdx := by simp only [advanceMatrixCounter]
  have h2 : ∀ u, (endCharacterRow u).fetchIdx = u.fetchIdx := fun u => by simp only [endCharacterRow, apply_ite State.fetchIdx, ite_self]
  have h3 : ∀ u, (advanceRow u).fetchIdx = u.fetchIdx := fun u => by simp only [advanceRow, apply_ite State.fetchIdx, ite_self]
  simp only [lineCounters, applyForcedDisplay, apply_ite State.fetchIdx, ite_self, h1, h2, h3]
@[simp] theorem lineCounters_spriteFetchMsk (s : State) : (lineCounters s).spriteFetchMsk = s.spriteFetchMsk := by
  have h1 : (advanceMatrixCounter s).spriteFetchMsk = s.spriteFetchMsk := by simp only [advanceMatrixCounter]
  have h2 : ∀ u, (endCharacterRow u).spriteFetchMsk = u.spriteFetchMsk := fun u => by simp only [endCharacterRow, apply_ite State.spriteFetchMsk, ite_self]
  have h3 : ∀ u, (advanceRow u).spriteFetchMsk = u.spriteFetchMsk := fun u => by simp only [advanceRow, apply_ite State.spriteFetchMsk, ite_self]
  simp only [lineCounters, applyForcedDisplay, apply_ite State.spriteFetchMsk, ite_self, h1, h2, h3]
@[simp] theorem lineCounters_spriteFetchIdx (s : State) : (lineCounters s).spriteFetchIdx = s.spriteFetchIdx := by
  have h1 : (advanceMatrixCounter s).spriteFetchIdx = s.spriteFetchIdx := by simp only [advanceMatrixCounter]
  have h2 : ∀ u, (endCharacterRow u).spriteFetchIdx = u.spriteFetchIdx := fun u => by simp only [endCharacterRow, apply_ite State.spriteFetchIdx, ite_self]
  have h3 : ∀ u, (advanceRow u).spriteFetchIdx = u.spriteFetchIdx := fun u => by simp only [advanceRow, apply_ite State.spriteFetchIdx, ite_self]
  simp only [lineCounters, applyForcedDisplay, apply_ite State.spriteFetchIdx, ite_self, h1, h2, h3]
@[simp] theorem lineCounters_spriteFetchBase (s : State) : (lineCounters s).spriteFetchBase = s.spriteFetchBase := by
  have h1 : (advanceMatrixCounter s).spriteFetchBase = s.spriteFetchBase := by simp only [advanceMatrixCounter]
  have h2 : ∀ u, (endCharacterRow u).spriteFetchBase = u.spriteFetchBase := fun u => by simp only [endCharacterRow, apply_ite State.spriteFetchBase, ite_self]
  have h3 : ∀ u, (advanceRow u).spriteFetchBase = u.spriteFetchBase := fun u => by simp only [advanceRow, apply_ite State.spriteFetchBase, ite_self]
  simp only [lineCounters, applyForcedDisplay, apply_ite State.spriteFetchBase, ite_self, h1, h2, h3]
@[simp] theorem lineCounters_regs (s : State) : (lineCounters s).regs = s.regs := by
  have h1 : (advanceMatrixCounter s).regs = s.regs := by simp only [advanceMatrixCounter]
  have h2 : ∀ u, (endCharacterRow u).regs = u.regs := fun u => by simp only [endCharacterRow, apply_ite State.regs, ite_self]
  have h3 : ∀ u, (advanceRow u).regs = u.regs := fun u => by simp only [advanceRow, apply_ite State.regs, ite_self]
  simp only [lineCounters, applyForcedDisplay, apply_ite State.regs, ite_self, h1, h2, h3]
@[simp] theorem lineCounters_videoMode (s : State) : (lineCounters s).videoMode = s.videoMode := by
  have h1 : (advanceMatrixCounter s).videoMode = s.videoMode := by simp only [advanceMatrixCounter]
  have h2 : ∀ u, (endCharacterRow u).videoMode = u.videoMode := fun u => by simp only [endCharacterRow, apply_ite State.videoMode, ite_self]
  have h3 : ∀ u, (advanceRow u).videoMode = u.videoMode := fun u => by simp only [advanceRow, apply_ite State.videoMode, ite_self]
  simp only [lineCounters, applyForcedDisplay, apply_ite State.videoMode, ite_self, h1, h2, h3]
@[simp] theorem lineCounters_badLine (s : State) : (lineCounters s).badLine = s.badLine := by
  have h1 : (advanceMatrixCounter s).badLine = s.badLine := by simp only [advanceMatrixCounter]
  have h2 : ∀ u, (endCharacterRow u).badLine = u.badLine := fun u => by simp only [endCharacterRow, apply_ite State.badLine, ite_self]
  have h3 : ∀ u, (advanceRow u).badLine = u.badLine := fun u => by simp only [advanceRow, apply_ite State.badLine, ite_self]
  simp only [lineCounters, applyForcedDisplay, apply_ite State.badLine, ite_self, h1, h2, h3]
@[simp] theorem lineCounters_allowBadLines (s : State) : (lineCounters s).allowBadLines = s.allowBadLines := by
  have h1 : (advanceMatrixCounter s).allowBadLines = s.allowBadLines := by simp only [advanceMatrixCounter]
  have h2 : ∀ u, (endCharacterRow u).allowBadLines = u.allowBadLines := fun u => by simp only [endCharacterRow, apply_ite State.allowBadLines, ite_self]
  have h3 : ∀ u, (advanceRow u).allowBadLines = u.allowBadLines := fun u => by simp only [advanceRow, apply_ite State.allowBadLines, ite_self]
  simp only [lineCounters, applyForcedDisplay, apply_ite State.allowBadLines, ite_self, h1, h2, h3]
@[simp] theorem lineCounters_blank (s : State) : (lineCounters s).blank = s.blank := by
  have h1 : (advanceMatrixCounter s).blank = s.blank := by simp only [advanceMatrixCounter]
  have h2 : ∀ u, (endCharacterRow u).blank = u.blank := fun u => by simp only [endCharacterRow, apply_ite State.blank, ite_self]
  have h3 : ∀ u, (advanceRow u).blank = u.blank := fun u => by simp only [advanceRow, apply_ite State.blank, ite_self]
  simp only [lineCounters, applyForcedDisplay, apply_ite State.blank, ite_self, h1, h2, h3]
@[simp] theorem lineCounters_vbuf (s : State) : (lineCounters s).vbuf = s.vbuf := by
  have h1 : (advanceMatrixCounter s).vbuf = s.vbuf := by simp only [advanceMatrixCounter]
  have h2 : ∀ u, (endCharacterRow u).vbuf = u.vbuf := fun u => by simp only [endCharacterRow, apply_ite State.vbuf, ite_self]
  have h3 : ∀ u, (advanceRow u).vbuf = u.vbuf := fun u => by simp only [advanceRow, apply_ite State.vbuf, ite_self]
  simp only [lineCounters, applyForcedDisplay, apply_ite State.vbuf, ite_self, h1, h2, h3]
@[simp] theorem lineCounters_cbuf (s : State) : (lineCounters s).cbuf = s.cbuf := by
  have h1 : (advanceMatrixCounter s).cbuf = s.cbuf := by simp only [advanceMatrixCounter]
  have h2 : ∀ u, (endCharacterRow u).cbuf = u.cbuf := fun u => by simp only [endCharacterRow, apply_ite State.cbuf, ite_self]
  have h3 : ∀ u, (advanceRow u).cbuf = u.cbuf := fun u => by simp only [advanceRow, apply_ite State.cbuf, ite_self]
  simp only [lineCounters, applyForcedDisplay, apply_ite State.cbuf, ite_self, h1, h2, h3]
@[simp] theorem lineCounters_backgroundColorSource (s : State) : (lineCounters s).backgroundColorSource = s.backgroundColorSource := by
  have h1 : (advanceMatrixCounter s).backgroundColorSource = s.backgroundColorSource := by simp only [advanceMatrixCounter]
  have h2 : ∀ u, (endCharacterRow u).backgroundColorSource = u.backgroundColorSource := fun u => by simp only [endCharacterRow, apply_ite State.backgroundColorSource, ite_self]
  have h3 : ∀ u, (advanceRow u).backgroundColorSource = u.backgroundColorSource := fun u => by simp only [advanceRow, apply_ite State.backgroundColorSource, ite_self]
  simp only [lineCounters, applyForcedDisplay, apply_ite State.backgroundColorSource, ite_self, h1, h2, h3]
@[simp] theorem lineCounters_idleData (s : State) : (lineCounters s).idleData = s.idleData := by
  have h1 : (advanceMatrixCounter s).idleData = s.idleData := by simp only [advanceMatrixCounter]
  have h2 : ∀ u, (endCharacterRow u).idleData = u.idleData := fun u => by simp only [endCharacterRow, apply_ite State.idleData, ite_self]
  have h3 : ∀ u, (advanceRow u).idleData = u.idleData := fun u => by simp only [advanceRow, apply_ite State.idleData, ite_self]
  simp only [lineCounters, applyForcedDisplay, apply_ite State.idleData, ite_self, h1, h2, h3]
@[simp] theorem lineCounters_colorRam (s : State) : (lineCounters s).colorRam = s.colorRam := by
  have h1 : (advanceMatrixCounter s).colorRam = s.colorRam := by simp only [advanceMatrixCounter]
  have h2 : ∀ u, (endCharacterRow u).colorRam = u.colorRam := fun u => by simp only [endCharacterRow, apply_ite State.colorRam, ite_self]
  have h3 : ∀ u, (advanceRow u).colorRam = u.colorRam := fun u => by simp only [advanceRow, apply_ite State.colorRam, ite_self]
  simp only [lineCounters, applyForcedDisplay, apply_ite State.colorRam, ite_self, h1, h2, h3]
@[simp] theorem lineCounters_vbankPhi1 (s : State) : (lineCounters s).vbankPhi1 = s.vbankPhi1 := by
  have h1 : (advanceMatrixCounter s).vbankPhi1 = s.vbankPhi1 := by simp only [advanceMatrixCounter]
  have h2 : ∀ u, (endCharacterRow u).vbankPhi1 = u.vbankPhi1 := fun u => by simp only [endCharacterRow, apply_ite State.vbankPhi1, ite_self]
  have h3 : ∀ u, (advanceRow u).vbankPhi1 = u.vbankPhi1 := fun u => by simp only [advanceRow, apply_ite State.vbankPhi1, ite_self]
  simp only [lineCounters, applyForcedDisplay, apply_ite State.vbankPhi1, ite_self, h1, h2, h3]
@[simp] theorem lineCounters_vbankPhi2 (s : State) : (lineCounters s).vbankPhi2 = s.vbankPhi2 := by
  have h1 : (advanceMatrixCounter s).vbankPhi2 = s.vbankPhi2 := by simp only [advanceMatrixCounter]
  have h2 : ∀ u, (endCharacterRow u).vbankPhi2 = u.vbankPhi2 := fun u => by simp only [endCharacterRow, apply_ite State.vbankPhi2, ite_self]
  have h3 : ∀ u, (advanceRow u).vbankPhi2 = u.vbankPhi2 := fun u => by simp only [advanceRow, apply_ite State.vbankPhi2, ite_self]
  simp only [lineCounters, applyForcedDisplay, apply_ite State.vbankPhi2, ite_self, h1, h2, h3]
@[simp] theorem lineCounters_ramBaseOffset (s : State) : (lineCounters s).ramBaseOffset = s.ramBaseOffset := by
  have h1 : (advanceMatrixCounter s).ramBaseOffset = s.ramBaseOffset := by simp only [advanceMatrixCounter]
  have h2 : ∀ u, (endCharacterRow u).ramBaseOffset = u.ramBaseOffset := fun u => by simp only [endCharacterRow, apply_ite State.ramBaseOffset, ite_self]
  have h3 : ∀ u, (advanceRow u).ramBaseOffset = u.ramBaseOffset := fun u => by simp only [advanceRow, apply_ite State.ramBaseOffset, ite_self]
  simp only [lineCounters, applyForcedDisplay, apply_ite State.ramBaseOffset, ite_self, h1, h2, h3]
@[simp] theorem lineCounters_irqStatus (s : State) : (lineCounters s).irqStatus = s.irqStatus := by
  have h1 : (advanceMatrixCounter s).irqStatus = s.irqStatus := by simp only [advanceMatrixCounter]
  have h2 : ∀ u, (endCharacterRow u).irqStatus = u.irqStatus := fun u => by simp only [endCharacterRow, apply_ite State.irqStatus, ite_self]
  have h3 : ∀ u, (advanceRow u).irqStatus = u.irqStatus := fun u => by simp only [advanceRow, apply_ite State.irqStatus, ite_self]
  simp only [lineCounters, applyForcedDisplay, apply_ite State.irqStatus, ite_self, h1, h2, h3]
@[simp] theorem lineCounters_rasterIrqLine (s : State) : (lineCounters s).rasterIrqLine = s.rasterIrqLine := by
  have h1 : (advanceMatrixCounter s).rasterIrqLine = s.rasterIrqLine := by simp only [advanceMatrixCounter]
  have h2 : ∀ u, (endCharacterRow u).rasterIrqLine = u.rasterIrqLine := fun u => by simp only [endCharacterRow, apply_ite State.rasterIrqLine, ite_self]
  have h3 : ∀ u, (advanceRow u).rasterIrqLine = u.rasterIrqLine := fun u => by simp only [advanceRow, apply_ite State.rasterIrqLine, ite_self]
  simp only [lineCounters, applyForcedDisplay, apply_ite State.rasterIrqLine, ite_self, h1, h2, h3]
@[simp] theorem lineCounters_irqLine (s : State) : (lineCounters s).irqLine = s.irqLine := by
  have h1 : (advanceMatrixCounter s).irqLine = s.irqLine := by simp only [advanceMatrixCounter]
  have h2 : ∀ u, (endCharacterRow u).irqLine = u.irqLine := fun u => by simp only [endCharacterRow, apply_ite State.irqLine, ite_self]
  have h3 : ∀ u, (advanceRow u).irqLine = u.irqLine := fun u => by simp only [advanceRow, apply_ite State.irqLine, ite_self]
  simp only [lineCounters, applyForcedDisplay, apply_ite State.irqLine, ite_self, h1, h2, h3]
@[simp] theorem lineCounters_spriteSpriteCollisions (s : State) : (lineCounters s).spriteSpriteCollisions = s.spriteSpriteCollisions := by
  have h1 : (advanceMatrixCounter s).spriteSpriteCollisions = s.spriteSpriteCollisions := by simp only [advanceMatrixCounter]
  have h2 : ∀ u, (endCharacterRow u).spriteSpriteCollisions = u.spriteSpriteCollisions := fun u => by simp only [endCharacterRow, apply_ite State.spriteSpriteCollisions, ite_self]
  have h3 : ∀ u, (advanceRow u).spriteSpriteCollisions = u.spriteSpriteCollisions := fun u => by simp only [advanceRow, apply_ite State.spriteSpriteCollisions, ite_self]
  simp only [lineCounters, applyForcedDisplay, apply_ite State.spriteSpriteCollisions, ite_self, h1, h2, h3]
@[simp] theorem lineCounters_spriteBackgroundCollisions (s : State) : (lineCounters s).spriteBackgroundCollisions = s.spriteBackgroundCollisions := by
  have h1 : (advanceMatrixCounter s).spriteBackgroundCollisions = s.spriteBackgroundCollisions := by simp only [advanceMatrixCounter]
  have h2 : ∀ u, (endCharacterRow u).spriteBackgroundCollisions = u.spriteBackgroundCollisions := fun u => by simp only [endCharacterRow, apply_ite State.spriteBackgroundCollisions, ite_self]
  have h3 : ∀ u, (advanceRow u).spriteBackgroundCollisions = u.spriteBackgroundCollisions := fun u => by simp only [advanceRow, apply_ite State.spriteBackgroundCollisions, ite_self]
  simp only [lineCounters, applyForcedDisplay, apply_ite State.spriteBackgroundCollisions, ite_self, h1, h2, h3]
@[simp] theorem lineCounters_lastRead (s : State) : (lineCounters s).lastRead = s.lastRead := by
  have h1 : (advanceMatrixCounter s).lastRead = s.lastRead := by simp only [advanceMatrixCounter]
  have h2 : ∀ u, (endCharacterRow u).lastRead = u.lastRead := fun u => by simp only [endCharacterRow, apply_ite State.lastRead, ite_self]
  have h3 : ∀ u, (advanceRow u).lastRead = u.lastRead := fun u => by simp only [advanceRow, apply_ite State.lastRead, ite_self]
  simp only [lineCounters, applyForcedDisplay, apply_ite State.lastRead, ite_self, h1, h2, h3]
@[simp] theorem lineCounters_lightPen (s : State) : (lineCounters s).lightPen = s.lightPen := by
  have h1 : (advanceMatrixCounter s).lightPen = s.lightPen := by simp only [advanceMatrixCounter]
  have h2 : ∀ u, (endCharacterRow u).lightPen = u.lightPen := fun u => by simp only [endCharacterRow, apply_ite State.lightPen, ite_self]
  have h3 : ∀ u, (advanceRow u).lightPen = u.lightPen := fun u => by simp only [advanceRow, apply_ite State.lightPen, ite_self]
  simp only [lineCounters, applyForcedDisplay, apply_ite State.lightPen, ite_self, h1, h2, h3]
@[simp] theorem lineCounters_sprites (s : State) : (lineCounters s).sprites = s.sprites := by
  have h1 : (advanceMatrixCounter s).sprites = s.sprites := by simp only [advanceMatrixCounter]
  have h2 : ∀ u, (endCharacterRow u).sprites = u.sprites := fun u => by simp only [endCharacterRow, apply_ite State.sprites, ite_self]
  have h3 : ∀ u, (advanceRow u).sprites = u.sprites := fun u => by simp only [advanceRow, apply_ite State.sprites, ite_self]
  simp only [lineCounters, applyForcedDisplay, apply_ite State.sprites, ite_self, h1, h2, h3]
@[simp] theorem lineCounters_newSpriteDmaMask (s : State) : (lineCounters s).newSpriteDmaMask = s.newSpriteDmaMask := by
  have h1 : (advanceMatrixCounter s).newSpriteDmaMask = s.newSpriteDmaMask := by simp only [advanceMatrixCounter]
  have h2 : ∀ u, (endCharacterRow u).newSpriteDmaMask = u.newSpriteDmaMask := fun u => by simp only [endCharacterRow, apply_ite State.newSpriteDmaMask, ite_self]
  have h3 : ∀ u, (advanceRow u).newSpriteDmaMask = u.newSpriteDmaMask := fun u => by simp only [advanceRow, apply_ite State.newSpriteDmaMask, ite_self]
  simp only [lineCounters, applyForcedDisplay, apply_ite State.newSpriteDmaMask, ite_self, h1, h2, h3]
@[simp] theorem lineCounters_spriteDmaMask (s : State) : (lineCounters s).spriteDmaMask = s.spriteDmaMask := by
  have h1 : (advanceMatrixCounter s).spriteDmaMask = s.spriteDmaMask := by simp only [advanceMatrixCounter]
  have h2 : ∀ u, (endCharacterRow u).spriteDmaMask = u.spriteDmaMask := fun u => by simp only [endCharacterRow, apply_ite State.spriteDmaMask, ite_self]
  have h3 : ∀ u, (advanceRow u).spriteDmaMask = u.spriteDmaMask := fun u => by simp only [advanceRow, apply_ite State.spriteDmaMask, ite_self]
  simp only [lineCounters, applyForcedDisplay, apply_ite State.spriteDmaMask, ite_self, h1, h2, h3]
@[simp] theorem lineCounters_changes (s : State) : (lineCounters s).changes = s.changes := by
  have h1 : (advanceMatrixCounter s).changes = s.changes := by simp only [advanceMatrixCounter]
  have h2 : ∀ u, (endCharacterRow u).changes = u.changes := fun u => by simp only [endCharacterRow, apply_ite State.changes, ite_self]
  have h3 : ∀ u, (advanceRow u).changes = u.changes := fun u => by simp only [advanceRow, apply_ite State.changes, ite_self]
  simp only [lineCounters, applyForcedDisplay, apply_ite State.changes, ite_self, h1, h2, h3]
@[simp] theorem lineCounters_lineStart (s : State) : (lineCounters s).lineStart = s.lineStart := by
  have h1 : (advanceMatrixCounter s).lineStart = s.lineStart := by simp only [advanceMatrixCounter]
  have h2 : ∀ u, (endCharacterRow u).lineStart = u.lineStart := fun u => by simp only [endCharacterRow, apply_ite State.lineStart, ite_self]
  have h3 : ∀ u, (advanceRow u).lineStart = u.lineStart := fun u => by simp only [advanceRow, apply_ite State.lineStart, ite_self]
  simp only [lineCounters, applyForcedDisplay, apply_ite State.lineStart, ite_self, h1, h2, h3]
@[simp] theorem lineCounters_cache (s : State) : (lineCounters s).cache = s.cache := by
  have h1 : (advanceMatrixCounter s).cache = s.cache := by simp only [advanceMatrixCounter]
  have h2 : ∀ u, (endCharacterRow u).cache = u.cache := fun u => by simp only [endCharacterRow, apply_ite State.cache, ite_self]
  have h3 : ∀ u, (advanceRow u).cache = u.cache := fun u => by simp only [advanceRow, apply_ite State.cache, ite_self]
  simp only [lineCounters, applyForcedDisplay, apply_ite State.cache, ite_self, h1, h2, h3]
@[simp] theorem lineCounters_dirtyRange (s : State) : (lineCounters s).dirtyRange = s.dirtyRange := by
  have h1 : (advanceMatrixCounter s).dirtyRange = s.dirtyRange := by simp only [advanceMatrixCounter]
  have h2 : ∀ u, (endCharacterRow u).dirtyRange = u.dirtyRange := fun u => by simp only [endCharacterRow, apply_ite State.dirtyRange, ite_self]
  have h3 : ∀ u, (advanceRow u).dirtyRange = u.dirtyRange := fun u => by simp only [advanceRow, apply_ite State.dirtyRange, ite_self]
  simp only [lineCounters, applyForcedDisplay, apply_ite State.dirtyRange, ite_self, h1, h2, h3]
@[simp] theorem lineCounters_borderTop (s : State) : (lineCounters s).borderTop = s.borderTop := by
  have h1 : (advanceMatrixCounter s).borderTop = s.borderTop := by simp only [advanceMatrixCounter]
  have h2 : ∀ u, (endCharacterRow u).borderTop = u.borderTop := fun u => by simp only [endCharacterRow, apply_ite State.borderTop, ite_self]
  have h3 : ∀ u, (advanceRow u).borderTop = u.borderTop := fun u => by simp only [advanceRow, apply_ite State.borderTop, ite_self]
  simp only [lineCounters, applyForcedDisplay, apply_ite State.borderTop, ite_self, h1, h2, h3]
@[simp] theorem lineCounters_borderBottom (s : State) : (lineCounters s).borderBottom = s.borderBottom := by
  have h1 : (advanceMatrixCounter s).borderBottom = s.borderBottom := by simp only [advanceMatrixCounter]
  have h2 : ∀ u, (endCharacterRow u).borderBottom = u.borderBottom := fun u => by simp only [endCharacterRow, apply_ite State.borderBottom, ite_self]
  have h3 : ∀ u, (advanceRow u).borderBottom = u.borderBottom := fun u => by simp only [advanceRow, apply_ite State.borderBottom, ite_self]
  simp only [lineCounters, applyForcedDisplay, apply_ite State.borderBottom, ite_self, h1, h2, h3]
@[simp] theorem lineCounters_verticalBorder (s : State) : (lineCounters s).verticalBorder = s.verticalBorder := by
  have h1 : (advanceMatrixCounter s).verticalBorder = s.verticalBorder := by simp only [advanceMatrixCounter]
  have h2 : ∀ u, (endCharacterRow u).verticalBorder = u.verticalBorder := fun u => by simp only [endCharacterRow, apply_ite State.verticalBorder, ite_self]
  have h3 : ∀ u, (advanceRow u).verticalBorder = u.verticalBorder := fun u => by simp only [advanceRow, apply_ite State.verticalBorder, ite_self]
  simp only [lineCounters, applyForcedDisplay, apply_ite State.verticalBorder, ite_self, h1, h2, h3]
@[simp] theorem lineCounters_ram (s : State) : (lineCounters s).ram = s.ram := by
  have h1 : (advanceMatrixCounter s).ram = s.ram := by simp only [advanceMatrixCounter]
  have h2 : ∀ u, (endCharacterRow u).ram = u.ram := fun u => by simp only [endCharacterRow, apply_ite State.ram, ite_self]
  have h3 : ∀ u, (advanceRow u).ram = u.ram := fun u => by simp only [advanceRow, apply_ite State.ram, ite_self]
  simp only [lineCounters, applyForcedDisplay, apply_ite State.ram, ite_self, h1, h2, h3]
@[simp] theorem lineCounters_chargen (s : State) : (lineCounters s).chargen = s.chargen := by
  have h1 : (advanceMatrixCounter s).chargen = s.chargen := by simp only [advanceMatrixCounter]
  have h2 : ∀ u, (endCharacterRow u).chargen = u.chargen := fun u => by simp only [endCharacterRow, apply_ite State.chargen, ite_self]
  have h3 : ∀ u, (advanceRow u).chargen = u.chargen := fun u => by simp only [advanceRow, apply_ite State.chargen, ite_self]
  simp only [lineCounters, applyForcedDisplay, apply_ite State.chargen, ite_self, h1, h2, h3]
@[simp] theorem lineCounters_romh (s : State) : (lineCounters s).romh = s.romh := by
  have h1 : (advanceMatrixCounter s).romh = s.romh := by simp only [advanceMatrixCounter]
  have h2 : ∀ u, (endCharacterRow u).romh = u.romh := fun u => by simp only [endCharacterRow, apply_ite State.romh, ite_self]
  have h3 : ∀ u, (advanceRow u).romh = u.romh := fun u => by simp only [advanceRow, apply_ite State.romh, ite_self]
  simp only [lineCounters, applyForcedDisplay, apply_ite State.romh, ite_self, h1, h2, h3]
@[simp] theorem lineCounters_memoryTime (s : State) : (lineCounters s).memoryTime = s.memoryTime := by
  have h1 : (advanceMatrixCounter s).memoryTime = s.memoryTime := by simp only [advanceMatrixCounter]
  have h2 : ∀ u, (endCharacterRow u).memoryTime = u.memoryTime := fun u => by simp only [endCharacterRow, apply_ite State.memoryTime, ite_self]
  have h3 : ∀ u, (advanceRow u).memoryTime = u.memoryTime := fun u => by simp only [advanceRow, apply_ite State.memoryTime, ite_self]
  simp only [lineCounters, applyForcedDisplay, apply_ite State.memoryTime, ite_self, h1, h2, h3]
@[simp] theorem lineCounters_ultimax (s : State) : (lineCounters s).ultimax = s.ultimax := by
  have h1 : (advanceMatrixCounter s).ultimax = s.ultimax := by simp only [advanceMatrixCounter]
  have h2 : ∀ u, (endCharacterRow u).ultimax = u.ultimax := fun u => by simp only [endCharacterRow, apply_ite State.ultimax, ite_self]
  have h3 : ∀ u, (advanceRow u).ultimax = u.ultimax := fun u => by simp only [advanceRow, apply_ite State.ultimax, ite_self]
  simp only [lineCounters, applyForcedDisplay, apply_ite State.ultimax, ite_self, h1, h2, h3]
@[simp] theorem lineCounters_readData (s : State) : (lineCounters s).readData = s.readData := by
  have h1 : (advanceMatrixCounter s).readData = s.readData := by simp only [advanceMatrixCounter]
  have h2 : ∀ u, (endCharacterRow u).readData = u.readData := fun u => by simp only [endCharacterRow, apply_ite State.readData, ite_self]
  have h3 : ∀ u, (advanceRow u).readData = u.readData := fun u => by simp only [advanceRow, apply_ite State.readData, ite_self]
  simp only [lineCounters, applyForcedDisplay, apply_ite State.readData, ite_self, h1, h2, h3]
@[simp] theorem lineCounters_stolenCycles (s : State) : (lineCounters s).stolenCycles = s.stolenCycles := by
  have h1 : (advanceMatrixCounter s).stolenCycles = s.stolenCycles := by simp only [advanceMatrixCounter]
  have h2 : ∀ u, (endCharacterRow u).stolenCycles = u.stolenCycles := fun u => by simp only [endCharacterRow, apply_ite State.stolenCycles, ite_self]
  have h3 : ∀ u, (advanceRow u).stolenCycles = u.stolenCycles := fun u => by simp only [advanceRow, apply_ite State.stolenCycles, ite_self]
  simp only [lineCounters, applyForcedDisplay, apply_ite State.stolenCycles, ite_self, h1, h2, h3]
@[simp] theorem lineCounters_lines (s : State) : (lineCounters s).lines = s.lines := by
  have h1 : (advanceMatrixCounter s).lines = s.lines := by simp only [advanceMatrixCounter]
  have h2 : ∀ u, (endCharacterRow u).lines = u.lines := fun u => by simp only [endCharacterRow, apply_ite State.lines, ite_self]
  have h3 : ∀ u, (advanceRow u).lines = u.lines := fun u => by simp only [advanceRow, apply_ite State.lines, ite_self]
  simp only [lineCounters, applyForcedDisplay, apply_ite State.lines, ite_self, h1, h2, h3]
@[simp] theorem lineCounters_log (s : State) : (lineCounters s).log = s.log := by
  have h1 : (advanceMatrixCounter s).log = s.log := by simp only [advanceMatrixCounter]
  have h2 : ∀ u, (endCharacterRow u).log = u.log := fun u => by simp only [endCharacterRow, apply_ite State.log, ite_self]
  have h3 : ∀ u, (advanceRow u).log = u.log := fun u => by simp only [advanceRow, apply_ite State.log, ite_self]
  simp only [lineCounters, applyForcedDisplay, apply_ite State.log, ite_self, h1, h2, h3]
@[simp] theorem lineCounters_snapshotOut (s : State) : (lineCounters s).snapshotOut = s.snapshotOut := by
  have h1 : (advanceMatrixCounter s).snapshotOut = s.snapshotOut := by simp only [advanceMatrixCounter]
  have h2 : ∀ u, (endCharacterRow u).snapshotOut = u.snapshotOut := fun u => by simp only [endCharacterRow, apply_ite State.snapshotOut, ite_self]
  have h3 : ∀ u, (advanceRow u).snapshotOut = u.snapshotOut := fun u => by simp only [advanceRow, apply_ite State.snapshotOut, ite_self]
  simp only [lineCounters, applyForcedDisplay, apply_ite State.snapshotOut, ite_self, h1, h2, h3]
@[simp] theorem lineCounters_lineCollisions (s : State) : (lineCounters s).lineCollisions = s.lineCollisions := by
  have h1 : (advanceMatrixCounter s).lineCollisions = s.lineCollisions := by simp only [advanceMatrixCounter]
  have h2 : ∀ u, (endCharacterRow u).lineCollisions = u.lineCollisions := fun u => by simp only [endCharacterRow, apply_ite State.lineCollisions, ite_self]
  have h3 : ∀ u, (advanceRow u).lineCollisions = u.lineCollisions := fun u => by simp only [advanceRow, apply_ite State.lineCollisions, ite_self]
  simp only [lineCounters, applyForcedDisplay, apply_ite State.lineCollisions, ite_self, h1, h2, h3]
@[simp] theorem lineCounters_inbox (s : State) : (lineCounters s).inbox = s.inbox := by
  have h1 : (advanceMatrixCounter s).inbox = s.inbox := by simp only [advanceMatrixCounter]
  have h2 : ∀ u, (endCharacterRow u).inbox = u.inbox := fun u => by simp only [endCharacterRow, apply_ite State.inbox, ite_self]
  have h3 : ∀ u, (advanceRow u).inbox = u.inbox := fun u => by simp only [advanceRow, apply_ite State.inbox, ite_self]
  simp only [lineCounters, applyForcedDisplay, apply_ite State.inbox, ite_self, h1, h2, h3]
@[simp] theorem lineCounters_operands (s : State) : (lineCounters s).operands = s.operands := by
  have h1 : (advanceMatrixCounter s).operands = s.operands := by simp only [advanceMatrixCounter]
  have h2 : ∀ u, (endCharacterRow u).operands = u.operands := fun u => by simp only [endCharacterRow, apply_ite State.operands, ite_self]
  have h3 : ∀ u, (advanceRow u).operands = u.operands := fun u => by simp only [advanceRow, apply_ite State.operands, ite_self]
  simp only [lineCounters, applyForcedDisplay, apply_ite State.operands, ite_self, h1, h2, h3]
@[simp] theorem lineCounters_draws (s : State) : (lineCounters s).draws = s.draws := by
  have h1 : (advanceMatrixCounter s).draws = s.draws := by simp only [advanceMatrixCounter]
  have h2 : ∀ u, (endCharacterRow u).draws = u.draws := fun u => by simp only [endCharacterRow, apply_ite State.draws, ite_self]
  have h3 : ∀ u, (advanceRow u).draws = u.draws := fun u => by simp only [advanceRow, apply_ite State.draws, ite_self]
  simp only [lineCounters, applyForcedDisplay, apply_ite State.draws, ite_self, h1, h2, h3]

/-! beginNextLine -/

@[simp] theorem beginNextLine_cfg (s : State) : (beginNextLine s).cfg = s.cfg := by
  simp only [beginNextLine, lineCounters_cfg, vsync, shiftSprites, apply_ite State.cfg, ite_self]
@[simp] theorem beginNextLine_clk (s : State) : (beginNextLine s).clk = s.clk := by
  simp only [beginNextLine, lineCounters_clk, vsync, shiftSprites, apply_ite State.clk, ite_self]
@[simp] theorem beginNextLine_fetchClk (s : State) : (beginNextLine s).fetchClk = s.fetchClk := by
  simp only [beginNextLine, lineCounters_fetchClk, vsync, shiftSprites, apply_ite State.fetchClk, ite_self]
@[simp] theorem beginNextLine_rasterIrqClk (s : State) : (beginNextLine s).rasterIrqClk = s.rasterIrqClk := by
  simp only [beginNextLine, lineCounters_rasterIrqClk, vsync, shiftSprites, apply_ite State.rasterIrqClk, ite_self]
@[simp] theorem beginNextLine_fetchIdx (s : State) : (beginNextLine s).fetchIdx = s.fetchIdx := by
  simp only [beginNextLine, lineCounters_fetchIdx, vsync, shiftSprites, apply_ite State.fetchIdx, ite_self]
@[simp] theorem beginNextLine_spriteFetchMsk (s : State) : (beginNextLine s).spriteFetchMsk = s.spriteFetchMsk := by
  simp only [beginNextLine, lineCounters_spriteFetchMsk, vsync, shiftSprites, apply_ite State.spriteFetchMsk, ite_self]
@[simp] theorem beginNextLine_spriteFetchIdx (s : State) : (beginNextLine s).spriteFetchIdx = s.spriteFetchIdx := by
  simp only [beginNextLine, lineCounters_spriteFetchIdx, vsync, shiftSprites, apply_ite State.spriteFetchIdx, ite_self]
@[simp] theorem beginNextLine_spriteFetchBase (s : State) : (beginNextLine s).spriteFetchBase = s.spriteFetchBase := by
  simp only [beginNextLine, lineCounters_spriteFetchBase, vsync, shiftSprites, apply_ite State.spriteFetchBase, ite_self]
@[simp] theorem beginNextLine_regs (s : State) : (beginNextLine s).regs = s.regs := by
  simp only [beginNextLine, lineCounters_regs, vsync, shiftSprites, apply_ite State.regs, ite_self]
@[simp] theorem beginNextLine_videoMode (s : State) : (beginNextLine s).videoMode = s.videoMode := by
  simp only [beginNextLine, lineCounters_videoMode, vsync, shiftSprites, apply_ite State.videoMode, ite_self]
@[simp] theorem beginNextLine_allowBadLines (s : State) : (beginNextLine s).allowBadLines = s.allowBadLines := by
  simp only [beginNextLine, lineCounters_allowBadLines, vsync, shiftSprites, apply_ite State.allowBadLines, ite_self]
@[simp] theorem beginNextLine_blank (s : State) : (beginNextLine s).blank = s.blank := by
  simp only [beginNextLine, lineCounters_blank, vsync, shiftSprites, apply_ite State.blank, ite_self]
@[simp] theorem beginNextLine_vbuf (s : State) : (beginNextLine s).vbuf = s.vbuf := by
  simp only [beginNextLine, lineCounters_vbuf, vsync, shiftSprites, apply_ite State.vbuf, ite_self]
@[simp] theorem beginNextLine_cbuf (s : State) : (beginNextLine s).cbuf = s.cbuf := by
  simp only [beginNextLine, lineCounters_cbuf, vsync, shiftSprites, apply_ite State.cbuf, ite_self]
@[simp] theorem beginNextLine_backgroundColorSource (s : State) : (beginNextLine s).backgroundColorSource = s.backgroundColorSource := by
  simp only [beginNextLine, lineCounters_backgroundColorSource, vsync, shiftSprites, apply_ite State.backgroundColorSource, ite_self]
@[simp] theorem beginNextLine_idleData (s : State) : (beginNextLine s).idleData = s.idleData := by
  simp only [beginNextLine, lineCounters_idleData, vsync, shiftSprites, apply_ite State.idleData, ite_self]
@[simp] theorem beginNextLine_colorRam (s : State) : (beginNextLine s).colorRam = s.colorRam := by
  simp only [beginNextLine, lineCounters_colorRam, vsync, shiftSprites, apply_ite State.colorRam, ite_self]
@[simp] theorem beginNextLine_vbankPhi1 (s : State) : (beginNextLine s).vbankPhi1 = s.vbankPhi1 := by
  simp only [beginNextLine, lineCounters_vbankPhi1, vsync, shiftSprites, apply_ite State.vbankPhi1, ite_self]
@[simp] theorem beginNextLine_vbankPhi2 (s : State) : (beginNextLine s).vbankPhi2 = s.vbankPhi2 := by
  simp only [beginNextLine, lineCounters_vbankPhi2, vsync, shiftSprites, apply_ite State.vbankPhi2, ite_self]
@[simp] theorem beginNextLine_ramBaseOffset (s : State) : (beginNextLine s).ramBaseOffset = s.ramBaseOffset := by
  simp only [beginNextLine, lineCounters_ramBaseOffset, vsync, shiftSprites, apply_ite State.ramBaseOffset, ite_self]
@[simp] theorem beginNextLine_irqStatus (s : State) : (beginNextLine s).irqStatus = s.irqStatus := by
  simp only [beginNextLine, lineCounters_irqStatus, vsync, shiftSprites, apply_ite State.irqStatus, ite_self]
@[simp] theorem beginNextLine_rasterIrqLine (s : State) : (beginNextLine s).rasterIrqLine = s.rasterIrqLine := by
  simp only [beginNextLine, lineCounters_rasterIrqLine, vsync, shiftSprites, apply_ite State.rasterIrqLine, ite_self]
@[simp] theorem beginNextLine_irqLine (s : State) : (beginNextLine s).irqLine = s.irqLine := by
  simp only [beginNextLine, lineCounters_irqLine, vsync, shiftSprites, apply_ite State.irqLine, ite_self]
@[simp] theorem beginNextLine_spriteSpriteCollisions (s : State) : (beginNextLine s).spriteSpriteCollisions = s.spriteSpriteCollisions := by
  simp only [beginNextLine, lineCounters_spriteSpriteCollisions, vsync, shiftSprites, apply_ite State.spriteSpriteCollisions, ite_self]
@[simp] theorem beginNextLine_spriteBackgroundCollisions (s : State) : (beginNextLine s).spriteBackgroundCollisions = s.spriteBackgroundCollisions := by
  simp only [beginNextLine, lineCounters_spriteBackgroundCollisions, vsync, shiftSprites, apply_ite State.spriteBackgroundCollisions, ite_self]
@[simp] theorem beginNextLine_lastRead (s : State) : (beginNextLine s).lastRead = s.lastRead := by
  simp only [beginNextLine, lineCounters_lastRead, vsync, shiftSprites, apply_ite State.lastRead, ite_self]
@[simp] theorem beginNextLine_newSpriteDmaMask (s : State) : (beginNextLine s).newSpriteDmaMask = s.newSpriteDmaMask := by
  simp only [beginNextLine, lineCounters_newSpriteDmaMask, vsync, shiftSprites, apply_ite State.newSpriteDmaMask, ite_self]
@[simp] theorem beginNextLine_changes (s : State) : (beginNextLine s).changes = s.changes := by
  simp only [beginNextLine, lineCounters_changes, vsync, shiftSprites, apply_ite State.changes, ite_self]
@[simp] theorem beginNextLine_lineStart (s : State) : (beginNextLine s).lineStart = s.lineStart := by
  simp only [beginNextLine, lineCounters_lineStart, vsync, shiftSprites, apply_ite State.lineStart, ite_self]
@[simp] theorem beginNextLine_cache (s : State) : (beginNextLine s).cache = s.cache := by
  simp only [beginNextLine, lineCounters_cache, vsync, shiftSprites, apply_ite State.cache, ite_self]
@[simp] theorem beginNextLine_dirtyRange (s : State) : (beginNextLine s).dirtyRange = s.dirtyRange := by
  simp only [beginNextLine, lineCounters_dirtyRange, vsync, shiftSprites, apply_ite State.dirtyRange, ite_self]
@[simp] theorem beginNextLine_borderTop (s : State) : (beginNextLine s).borderTop = s.borderTop := by
  simp only [beginNextLine, lineCounters_borderTop, vsync, shiftSprites, apply_ite State.borderTop, ite_self]
@[simp] theorem beginNextLine_borderBottom (s : State) : (beginNextLine s).borderBottom = s.borderBottom := by
  simp only [beginNextLine, lineCounters_borderBottom, vsync, shiftSprites, apply_ite State.borderBottom, ite_self]
@[simp] theorem beginNextLine_verticalBorder (s : State) : (beginNextLine s).verticalBorder = s.verticalBorder := by
  simp only [beginNextLine, lineCounters_verticalBorder, vsync, shiftSprites, apply_ite State.verticalBorder, ite_self]
@[simp] theorem beginNextLine_ram (s : State) : (beginNextLine s).ram = s.ram := by
  simp only [beginNextLine, lineCounters_ram, vsync, shiftSprites, apply_ite State.ram, ite_self]
@[simp] theorem beginNextLine_chargen (s : State) : (beginNextLine s).chargen = s.chargen := by
  simp only [beginNextLine, lineCounters_chargen, vsync, shiftSprites, apply_ite State.chargen, ite_self]
@[simp] theorem beginNextLine_romh (s : State) : (beginNextLine s).romh = s.romh := by
  simp only [beginNextLine, lineCounters_romh, vsync, shiftSprites, apply_ite State.romh, ite_self]
@[simp] theorem beginNextLine_memoryTime (s : State) : (beginNextLine s).memoryTime = s.memoryTime := by
  simp only [beginNextLine, lineCounters_memoryTime, vsync, shiftSprites, apply_ite State.memoryTime, ite_self]
@[simp] theorem beginNextLine_ultimax (s : State) : (beginNextLine s).ultimax = s.ultimax := by
  simp only [beginNextLine, lineCounters_ultimax, vsync, shiftSprites, apply_ite State.ultimax, ite_self]
@[simp] theorem beginNextLine_readData (s : State) : (beginNextLine s).readData = s.readData := by
  simp only [beginNextLine, lineCounters_readData, vsync, shiftSprites, apply_ite State.readData, ite_self]
@[simp] theorem beginNextLine_stolenCycles (s : State) : (beginNextLine s).stolenCycles = s.stolenCycles := by
  simp only [beginNextLine, lineCounters_stolenCycles, vsync, shiftSprites, apply_ite State.stolenCycles, ite_self]
@[simp] theorem beginNextLine_lines (s : State) : (beginNextLine s).lines = s.lines := by
  simp only [beginNextLine, lineCounters_lines, vsync, shiftSprites, apply_ite State.lines, ite_self]
@[simp] theorem beginNextLine_log (s : State) : (beginNextLine s).log = s.log := by
  simp only [beginNextLine, lineCounters_log, vsync, shiftSprites, apply_ite State.log, ite_self]
@[simp] theorem beginNextLine_snapshotOut (s : State) : (beginNextLine s).snapshotOut = s.snapshotOut := by
  simp only [beginNextLine, lineCounters_snapshotOut, vsync, shiftSprites, apply_ite State.snapshotOut, ite_self]
@[simp] theorem beginNextLine_lineCollisions (s : State) : (beginNextLine s).lineCollisions = s.lineCollisions := by
  simp only [beginNextLine, lineCounters_lineCollisions, vsync, shiftSprites, apply_ite State.lineCollisions, ite_self]
@[simp] theorem beginNextLine_inbox (s : State) : (beginNextLine s).inbox = s.inbox := by
  simp only [beginNextLine, lineCounters_inbox, vsync, shiftSprites, apply_ite State.inbox, ite_self]
@[simp] theorem beginNextLine_operands (s : State) : (beginNextLine s).operands = s.operands := by
  simp only [beginNextLine, lineCounters_operands, vsync, shiftSprites, apply_ite State.operands, ite_self]
@[simp] theorem beginNextLine_draws (s : State) : (beginNextLine s).draws = s.draws := by
  simp only [beginNextLine, lineCounters_draws, vsync, shiftSprites, apply_ite State.draws, ite_self]

/-! drawAlarm -/

@[simp] theorem drawAlarm_cfg (s : State) : (drawAlarm s).cfg = s.cfg := by
  simp only [drawAlarm, beginNextLine_cfg, collisionIrqs_cfg, drawLine_cfg]
@[simp] theorem drawAlarm_clk (s : State) : (drawAlarm s).clk = s.clk := by
  simp only [drawAlarm, beginNextLine_clk, collisionIrqs_clk, drawLine_clk]
@[simp] theorem drawAlarm_fetchClk (s : State) : (drawAlarm s).fetchClk = s.fetchClk := by
  simp only [drawAlarm, beginNextLine_fetchClk, collisionIrqs_fetchClk, drawLine_fetchClk]
@[simp] theorem drawAlarm_rasterIrqClk (s : State) : (drawAlarm s).rasterIrqClk = s.rasterIrqClk := by
  simp only [drawAlarm, beginNextLine_rasterIrqClk, collisionIrqs_rasterIrqClk, drawLine_rasterIrqClk]
@[simp] theorem drawAlarm_fetchIdx (s : State) : (drawAlarm s).fetchIdx = s.fetchIdx := by
  simp only [drawAlarm, beginNextLine_fetchIdx, collisionIrqs_fetchIdx, drawLine_fetchIdx]
@[simp] theorem drawAlarm_spriteFetchMsk (s : State) : (drawAlarm s).spriteFetchMsk = s.spriteFetchMsk := by
  simp only [drawAlarm, beginNextLine_spriteFetchMsk, collisionIrqs_spriteFetchMsk, drawLine_spriteFetchMsk]
@[simp] theorem drawAlarm_spriteFetchIdx (s : State) : (drawAlarm s).spriteFetchIdx = s.spriteFetchIdx := by
  simp only [drawAlarm, beginNextLine_spriteFetchIdx, collisionIrqs_spriteFetchIdx, drawLine_spriteFetchIdx]
@[simp] theorem drawAlarm_spriteFetchBase (s : State) : (drawAlarm s).spriteFetchBase = s.spriteFetchBase := by
  simp only [drawAlarm, beginNextLine_spriteFetchBase, collisionIrqs_spriteFetchBase, drawLine_spriteFetchBase]
@[simp] theorem drawAlarm_regs (s : State) : (drawAlarm s).regs = s.regs := by
  simp only [drawAlarm, beginNextLine_regs, collisionIrqs_regs, drawLine_regs]
@[simp] theorem drawAlarm_videoMode (s : State) : (drawAlarm s).videoMode = s.videoMode := by
  simp only [drawAlarm, beginNextLine_videoMode, collisionIrqs_videoMode, drawLine_videoMode]
@[simp] theorem drawAlarm_allowBadLines (s : State) : (drawAlarm s).allowBadLines = s.allowBadLines := by
  simp only [drawAlarm, beginNextLine_allowBadLines, collisionIrqs_allowBadLines, drawLine_allowBadLines]
@[simp] theorem drawAlarm_blank (s : State) : (drawAlarm s).blank = s.blank := by
  simp only [drawAlarm, beginNextLine_blank, collisionIrqs_blank, drawLine_blank]
@[simp] theorem drawAlarm_vbuf (s : State) : (drawAlarm s).vbuf = s.vbuf := by
  simp only [drawAlarm, beginNextLine_vbuf, collisionIrqs_vbuf, drawLine_vbuf]
@[simp] theorem drawAlarm_cbuf (s : State) : (drawAlarm s).cbuf = s.cbuf := by
  simp only [drawAlarm, beginNextLine_cbuf, collisionIrqs_cbuf, drawLine_cbuf]
@[simp] theorem drawAlarm_backgroundColorSource (s : State) : (drawAlarm s).backgroundColorSource = s.backgroundColorSource := by
  simp only [drawAlarm, beginNextLine_backgroundColorSource, collisionIrqs_backgroundColorSource, drawLine_backgroundColorSource]
@[simp] theorem drawAlarm_colorRam (s : State) : (drawAlarm s).colorRam = s.colorRam := by
  simp only [drawAlarm, beginNextLine_colorRam, collisionIrqs_colorRam, drawLine_colorRam]
@[simp] theorem drawAlarm_vbankPhi1 (s : State) : (drawAlarm s).vbankPhi1 = s.vbankPhi1 := by
  simp only [drawAlarm, beginNextLine_vbankPhi1, collisionIrqs_vbankPhi1, drawLine_vbankPhi1]
@[simp] theorem drawAlarm_vbankPhi2 (s : State) : (drawAlarm s).vbankPhi2 = s.vbankPhi2 := by
  simp only [drawAlarm, beginNextLine_vbankPhi2, collisionIrqs_vbankPhi2, drawLine_vbankPhi2]
@[simp] theorem drawAlarm_ramBaseOffset (s : State) : (drawAlarm s).ramBaseOffset = s.ramBaseOffset := by
  simp only [drawAlarm, beginNextLine_ramBaseOffset, collisionIrqs_ramBaseOffset, drawLine_ramBaseOffset]
@[simp] theorem drawAlarm_rasterIrqLine (s : State) : (drawAlarm s).rasterIrqLine = s.rasterIrqLine := by
  simp only [drawAlarm, beginNextLine_rasterIrqLine, collisionIrqs_rasterIrqLine, drawLine_rasterIrqLine]
@[simp] theorem drawAlarm_lastRead (s : State) : (drawAlarm s).lastRead = s.lastRead := by
  simp only [drawAlarm, beginNextLine_lastRead, collisionIrqs_lastRead, drawLine_lastRead]
@[simp] theorem drawAlarm_newSpriteDmaMask (s : State) : (drawAlarm s).newSpriteDmaMask = s.newSpriteDmaMask := by
  simp only [drawAlarm, beginNextLine_newSpriteDmaMask, collisionIrqs_newSpriteDmaMask, drawLine_newSpriteDmaMask]
@[simp] theorem drawAlarm_borderTop (s : State) : (drawAlarm s).borderTop = s.borderTop := by
  simp only [drawAlarm, beginNextLine_borderTop, collisionIrqs_borderTop, drawLine_borderTop]
@[simp] theorem drawAlarm_borderBottom (s : State) : (drawAlarm s).borderBottom = s.borderBottom := by
  simp only [drawAlarm, beginNextLine_borderBottom, collisionIrqs_borderBottom, drawLine_borderBottom]
@[simp] theorem drawAlarm_ram (s : State) : (drawAlarm s).ram = s.ram := by
  simp only [drawAlarm, beginNextLine_ram, collisionIrqs_ram, drawLine_ram]
@[simp] theorem drawAlarm_chargen (s : State) : (drawAlarm s).chargen = s.chargen := by
  simp only [drawAlarm, beginNextLine_chargen, collisionIrqs_chargen, drawLine_chargen]
@[simp] theorem drawAlarm_romh (s : State) : (drawAlarm s).romh = s.romh := by
  simp only [drawAlarm, beginNextLine_romh, collisionIrqs_romh, drawLine_romh]
@[simp] theorem drawAlarm_memoryTime (s : State) : (drawAlarm s).memoryTime = s.memoryTime := by
  simp only [drawAlarm, beginNextLine_memoryTime, collisionIrqs_memoryTime, drawLine_memoryTime]
@[simp] theorem drawAlarm_ultimax (s : State) : (drawAlarm s).ultimax = s.ultimax := by
  simp only [drawAlarm, beginNextLine_ultimax, collisionIrqs_ultimax, drawLine_ultimax]
@[simp] theorem drawAlarm_readData (s : State) : (drawAlarm s).readData = s.readData := by
  simp only [drawAlarm, beginNextLine_readData, collisionIrqs_readData, drawLine_readData]
@[simp] theorem drawAlarm_stolenCycles (s : State) : (drawAlarm s).stolenCycles = s.stolenCycles := by
  simp only [drawAlarm, beginNextLine_stolenCycles, collisionIrqs_stolenCycles, drawLine_stolenCycles]
@[simp] theorem drawAlarm_log (s : State) : (drawAlarm s).log = s.log := by
  simp only [drawAlarm, beginNextLine_log, collisionIrqs_log, drawLine_log]
@[simp] theorem drawAlarm_snapshotOut (s : State) : (drawAlarm s).snapshotOut = s.snapshotOut := by
  simp only [drawAlarm, beginNextLine_snapshotOut, collisionIrqs_snapshotOut, drawLine_snapshotOut]
@[simp] theorem drawAlarm_inbox (s : State) : (drawAlarm s).inbox = s.inbox := by
  simp only [drawAlarm, beginNextLine_inbox, collisionIrqs_inbox, drawLine_inbox]
@[simp] theorem drawAlarm_operands (s : State) : (drawAlarm s).operands = s.operands := by
  simp only [drawAlarm, beginNextLine_operands, collisionIrqs_operands, drawLine_operands]
@[simp] theorem drawAlarm_draws (s : State) : (drawAlarm s).draws = s.draws := by
  simp only [drawAlarm, beginNextLine_draws, collisionIrqs_draws, drawLine_draws]

/-! rasterIrqAlarm -/

@[simp] theorem rasterIrqAlarm_cfg (s : State) : (rasterIrqAlarm s).cfg = s.cfg := by
  simp only [rasterIrqAlarm, raiseIrq, updateIrqLine, apply_ite State.cfg, ite_self]
@[simp] theorem rasterIrqAlarm_clk (s : State) : (rasterIrqAlarm s).clk = s.clk := by
  simp only [rasterIrqAlarm, raiseIrq, updateIrqLine, apply_ite State.clk, ite_self]
@[simp] theorem rasterIrqAlarm_clkOrigin (s : State) : (rasterIrqAlarm s).clkOrigin = s.clkOrigin := by
  simp only [rasterIrqAlarm, raiseIrq, updateIrqLine, apply_ite State.clkOrigin, ite_self]
@[simp] theorem rasterIrqAlarm_currentLine (s : State) : (rasterIrqAlarm s).currentLine = s.currentLine := by
  simp only [rasterIrqAlarm, raiseIrq, updateIrqLine, apply_ite State.currentLine, ite_self]
@[simp] theorem rasterIrqAlarm_fetchClk (s : State) : (rasterIrqAlarm s).fetchClk = s.fetchClk := by
  simp only [rasterIrqAlarm, raiseIrq, updateIrqLine, apply_ite State.fetchClk, ite_self]
@[simp] theorem rasterIrqAlarm_drawClk (s : State) : (rasterIrqAlarm s).drawClk = s.drawClk := by
  simp only [rasterIrqAlarm, raiseIrq, updateIrqLine, apply_ite State.drawClk, ite_self]
@[simp] theorem rasterIrqAlarm_fetchIdx (s : State) : (rasterIrqAlarm s).fetchIdx = s.fetchIdx := by
  simp only [rasterIrqAlarm, raiseIrq, updateIrqLine, apply_ite State.fetchIdx, ite_self]
@[simp] theorem rasterIrqAlarm_spriteFetchMsk (s : State) : (rasterIrqAlarm s).spriteFetchMsk = s.spriteFetchMsk := by
  simp only [rasterIrqAlarm, raiseIrq, updateIrqLine, apply_ite State.spriteFetchMsk, ite_self]
@[simp] theorem rasterIrqAlarm_spriteFetchIdx (s : State) : (rasterIrqAlarm s).spriteFetchIdx = s.spriteFetchIdx := by
  simp only [rasterIrqAlarm, raiseIrq, updateIrqLine, apply_ite State.spriteFetchIdx, ite_self]
@[simp] theorem rasterIrqAlarm_spriteFetchBase (s : State) : (rasterIrqAlarm s).spriteFetchBase = s.spriteFetchBase := by
  simp only [rasterIrqAlarm, raiseIrq, updateIrqLine, apply_ite State.spriteFetchBase, ite_self]
@[simp] theorem rasterIrqAlarm_regs (s : State) : (rasterIrqAlarm s).regs = s.regs := by
  simp only [rasterIrqAlarm, raiseIrq, updateIrqLine, apply_ite State.regs, ite_self]
@[simp] theorem rasterIrqAlarm_videoMode (s : State) : (rasterIrqAlarm s).videoMode = s.videoMode := by
  simp only [rasterIrqAlarm, raiseIrq, updateIrqLine, apply_ite State.videoMode, ite_self]
@[simp] theorem rasterIrqAlarm_idleState (s : State) : (rasterIrqAlarm s).idleState = s.idleState := by
  simp only [rasterIrqAlarm, raiseIrq, updateIrqLine, apply_ite State.idleState, ite_self]
@[simp] theorem rasterIrqAlarm_badLine (s : State) : (rasterIrqAlarm s).badLine = s.badLine := by
  simp only [rasterIrqAlarm, raiseIrq, updateIrqLine, apply_ite State.badLine, ite_self]
@[simp] theorem rasterIrqAlarm_allowBadLines (s : State) : (rasterIrqAlarm s).allowBadLines = s.allowBadLines := by
  simp only [rasterIrqAlarm, raiseIrq, updateIrqLine, apply_ite State.allowBadLines, ite_self]
@[simp] theorem rasterIrqAlarm_blank (s : State) : (rasterIrqAlarm s).blank = s.blank := by
  simp only [rasterIrqAlarm, raiseIrq, updateIrqLine, apply_ite State.blank, ite_self]
@[simp] theorem rasterIrqAlarm_forceDisplayState (s : State) : (rasterIrqAlarm s).forceDisplayState = s.forceDisplayState := by
  simp only [rasterIrqAlarm, raiseIrq, updateIrqLine, apply_ite State.forceDisplayState, ite_self]
@[simp] theorem rasterIrqAlarm_ycounter (s : State) : (rasterIrqAlarm s).ycounter = s.ycounter := by
  simp only [rasterIrqAlarm, raiseIrq, updateIrqLine, apply_ite State.ycounter, ite_self]
@[simp] theorem rasterIrqAlarm_memCounter (s : State) : (rasterIrqAlarm s).memCounter = s.memCounter := by
  simp only [rasterIrqAlarm, raiseIrq, updateIrqLine, apply_ite State.memCounter, ite_self]
@[simp] theorem rasterIrqAlarm_memptr (s : State) : (rasterIrqAlarm s).memptr = s.memptr := by
  simp only [rasterIrqAlarm, raiseIrq, updateIrqLine, apply_ite State.memptr, ite_self]
@[simp] theorem rasterIrqAlarm_memCounterInc (s : State) : (rasterIrqAlarm s).memCounterInc = s.memCounterInc := by
  simp only [rasterIrqAlarm, raiseIrq, updateIrqLine, apply_ite State.memCounterInc, ite_self]
@[simp] theorem rasterIrqAlarm_vbuf (s : State) : (rasterIrqAlarm s).vbuf = s.vbuf := by
  simp only [rasterIrqAlarm, raiseIrq, updateIrqLine, apply_ite State.vbuf, ite_self]
@[simp] theorem rasterIrqAlarm_cbuf (s : State) : (rasterIrqAlarm s).cbuf = s.cbuf := by
  simp only [rasterIrqAlarm, raiseIrq, updateIrqLine, apply_ite State.cbuf, ite_self]
@[simp] theorem rasterIrqAlarm_backgroundColorSource (s : State) : (rasterIrqAlarm s).backgroundColorSource = s.backgroundColorSource := by
  simp only [rasterIrqAlarm, raiseIrq, updateIrqLine, apply_ite State.backgroundColorSource, ite_self]
@[simp] theorem rasterIrqAlarm_idleData (s : State) : (rasterIrqAlarm s).idleData = s.idleData := by
  simp only [rasterIrqAlarm, raiseIrq, updateIrqLine, apply_ite State.idleData, ite_self]
@[simp] theorem rasterIrqAlarm_colorRam (s : State) : (rasterIrqAlarm s).colorRam = s.colorRam := by
  simp only [rasterIrqAlarm, raiseIrq, updateIrqLine, apply_ite State.colorRam, ite_self]
@[simp] theorem rasterIrqAlarm_vbankPhi1 (s : State) : (rasterIrqAlarm s).vbankPhi1 = s.vbankPhi1 := by
  simp only [rasterIrqAlarm, raiseIrq, updateIrqLine, apply_ite State.vbankPhi1, ite_self]
@[simp] theorem rasterIrqAlarm_vbankPhi2 (s : State) : (rasterIrqAlarm s).vbankPhi2 = s.vbankPhi2 := by
  simp only [rasterIrqAlarm, raiseIrq, updateIrqLine, apply_ite State.vbankPhi2, ite_self]
@[simp] theorem rasterIrqAlarm_ramBaseOffset (s : State) : (rasterIrqAlarm s).ramBaseOffset = s.ramBaseOffset := by
  simp only [rasterIrqAlarm, raiseIrq, updateIrqLine, apply_ite State.ramBaseOffset, ite_self]
@[simp] theorem rasterIrqAlarm_rasterIrqLine (s : State) : (rasterIrqAlarm s).rasterIrqLine = s.rasterIrqLine := by
  simp only [rasterIrqAlarm, raiseIrq, updateIrqLine, apply_ite State.rasterIrqLine, ite_self]
@[simp] theorem rasterIrqAlarm_spriteSpriteCollisions (s : State) : (rasterIrqAlarm s).spriteSpriteCollisions = s.spriteSpriteCollisions := by
  simp only [rasterIrqAlarm, raiseIrq, updateIrqLine, apply_ite State.spriteSpriteCollisions, ite_self]
@[simp] theorem rasterIrqAlarm_spriteBackgroundCollisions (s : State) : (rasterIrqAlarm s).spriteBackgroundCollisions = s.spriteBackgroundCollisions := by
  simp only [rasterIrqAlarm, raiseIrq, updateIrqLine, apply_ite State.spriteBackgroundCollisions, ite_self]
@[simp] theorem rasterIrqAlarm_lastRead (s : State) : (rasterIrqAlarm s).lastRead = s.lastRead := by
  simp only [rasterIrqAlarm, raiseIrq, updateIrqLine, apply_ite State.lastRead, ite_self]
@[simp] theorem rasterIrqAlarm_lightPen (s : State) : (rasterIrqAlarm s).lightPen = s.lightPen := by
  simp only [rasterIrqAlarm, raiseIrq, updateIrqLine, apply_ite State.lightPen, ite_self]
@[simp] theorem rasterIrqAlarm_sprites (s : State) : (rasterIrqAlarm s).sprites = s.sprites := by
  simp only [rasterIrqAlarm, raiseIrq, updateIrqLine, apply_ite State.sprites, ite_self]
@[simp] theorem rasterIrqAlarm_newSpriteDmaMask (s : State) : (rasterIrqAlarm s).newSpriteDmaMask = s.newSpriteDmaMask := by
  simp only [rasterIrqAlarm, raiseIrq, updateIrqLine, apply_ite State.newSpriteDmaMask, ite_self]
@[simp] theorem rasterIrqAlarm_spriteDmaMask (s : State) : (rasterIrqAlarm s).spriteDmaMask = s.spriteDmaMask := by
  simp only [rasterIrqAlarm, raiseIrq, updateIrqLine, apply_ite State.spriteDmaMask, ite_self]
@[simp] theorem rasterIrqAlarm_changes (s : State) : (rasterIrqAlarm s).changes = s.changes := by
  simp only [rasterIrqAlarm, raiseIrq, updateIrqLine, apply_ite State.changes, ite_self]
@[simp] theorem rasterIrqAlarm_lineStart (s : State) : (rasterIrqAlarm s).lineStart = s.lineStart := by
  simp only [rasterIrqAlarm, raiseIrq, updateIrqLine, apply_ite State.lineStart, ite_self]
@[simp] theorem rasterIrqAlarm_cache (s : State) : (rasterIrqAlarm s).cache = s.cache := by
  simp only [rasterIrqAlarm, raiseIrq, updateIrqLine, apply_ite State.cache, ite_self]
@[simp] theorem rasterIrqAlarm_dirtyRange (s : State) : (rasterIrqAlarm s).dirtyRange = s.dirtyRange := by
  simp only [rasterIrqAlarm, raiseIrq, updateIrqLine, apply_ite State.dirtyRange, ite_self]
@[simp] theorem rasterIrqAlarm_borderTop (s : State) : (rasterIrqAlarm s).borderTop = s.borderTop := by
  simp only [rasterIrqAlarm, raiseIrq, updateIrqLine, apply_ite State.borderTop, ite_self]
@[simp] theorem rasterIrqAlarm_borderBottom (s : State) : (rasterIrqAlarm s).borderBottom = s.borderBottom := by
  simp only [rasterIrqAlarm, raiseIrq, updateIrqLine, apply_ite State.borderBottom, ite_self]
@[simp] theorem rasterIrqAlarm_verticalBorder (s : State) : (rasterIrqAlarm s).verticalBorder = s.verticalBorder := by
  simp only [rasterIrqAlarm, raiseIrq, updateIrqLine, apply_ite State.verticalBorder, ite_self]
@[simp] theorem rasterIrqAlarm_ram (s : State) : (rasterIrqAlarm s).ram = s.ram := by
  simp only [rasterIrqAlarm, raiseIrq, updateIrqLine, apply_ite State.ram, ite_self]
@[simp] theorem rasterIrqAlarm_chargen (s : State) : (rasterIrqAlarm s).chargen = s.chargen := by
  simp only [rasterIrqAlarm, raiseIrq, updateIrqLine, apply_ite State.chargen, ite_self]
@[simp] theorem rasterIrqAlarm_romh (s : State) : (rasterIrqAlarm s).romh = s.romh := by
  simp only [rasterIrqAlarm, raiseIrq, updateIrqLine, apply_ite State.romh, ite_self]
@[simp] theorem rasterIrqAlarm_memoryTime (s : State) : (rasterIrqAlarm s).memoryTime = s.memoryTime := by
  simp only [rasterIrqAlarm, raiseIrq, updateIrqLine, apply_ite State.memoryTime, ite_self]
@[simp] theorem rasterIrqAlarm_ultimax (s : State) : (rasterIrqAlarm s).ultimax = s.ultimax := by
  simp only [rasterIrqAlarm, raiseIrq, updateIrqLine, apply_ite State.ultimax, ite_self]
@[simp] theorem rasterIrqAlarm_readData (s : State) : (rasterIrqAlarm s).readData = s.readData := by
  simp only [rasterIrqAlarm, raiseIrq, updateIrqLine, apply_ite State.readData, ite_self]
@[simp] theorem rasterIrqAlarm_stolenCycles (s : State) : (rasterIrqAlarm s).stolenCycles = s.stolenCycles := by
  simp only [rasterIrqAlarm, raiseIrq, updateIrqLine, apply_ite State.stolenCycles, ite_self]
@[simp] theorem rasterIrqAlarm_lines (s : State) : (rasterIrqAlarm s).lines = s.lines := by
  simp only [rasterIrqAlarm, raiseIrq, updateIrqLine, apply_ite State.lines, ite_self]
@[simp] theorem rasterIrqAlarm_log (s : State) : (rasterIrqAlarm s).log = s.log := by
  simp only [rasterIrqAlarm, raiseIrq, updateIrqLine, apply_ite State.log, ite_self]
@[simp] theorem rasterIrqAlarm_snapshotOut (s : State) : (rasterIrqAlarm s).snapshotOut = s.snapshotOut := by
  simp only [rasterIrqAlarm, raiseIrq, updateIrqLine, apply_ite State.snapshotOut, ite_self]
@[simp] theorem rasterIrqAlarm_lineCollisions (s : State) : (rasterIrqAlarm s).lineCollisions = s.lineCollisions := by
  simp only [rasterIrqAlarm, raiseIrq, updateIrqLine, apply_ite State.lineCollisions, ite_self]
@[simp] theorem rasterIrqAlarm_inbox (s : State) : (rasterIrqAlarm s).inbox = s.inbox := by
  simp only [rasterIrqAlarm, raiseIrq, updateIrqLine, apply_ite State.inbox, ite_self]
@[simp] theorem rasterIrqAlarm_operands (s : State) : (rasterIrqAlarm s).operands = s.operands := by
  simp only [rasterIrqAlarm, raiseIrq, updateIrqLine, apply_ite State.operands, ite_self]
@[simp] theorem rasterIrqAlarm_draws (s : State) : (rasterIrqAlarm s).draws = s.draws := by
  simp only [rasterIrqAlarm, raiseIrq, updateIrqLine, apply_ite State.draws, ite_self]

/-! checkSpriteDma -/

@[simp] theorem checkSpriteDma_cfg (s : State) : (checkSpriteDma s).cfg = s.cfg := by
  simp only [checkSpriteDma]
@[simp] theorem checkSpriteDma_clk (s : State) : (checkSpriteDma s).clk = s.clk := by
  simp only [checkSpriteDma]
@[simp] theorem checkSpriteDma_clkOrigin (s : State) : (checkSpriteDma s).clkOrigin = s.clkOrigin := by
  simp only [checkSpriteDma]
@[simp] theorem checkSpriteDma_currentLine (s : State) : (checkSpriteDma s).currentLine = s.currentLine := by
  simp only [checkSpriteDma]
@[simp] theorem checkSpriteDma_fetchClk (s : State) : (checkSpriteDma s).fetchClk = s.fetchClk := by
  simp only [checkSpriteDma]
@[simp] theorem checkSpriteDma_drawClk (s : State) : (checkSpriteDma s).drawClk = s.drawClk := by
  simp only [checkSpriteDma]
@[simp] theorem checkSpriteDma_rasterIrqClk (s : State) : (checkSpriteDma s).rasterIrqClk = s.rasterIrqClk := by
  simp only [checkSpriteDma]
@[simp] theorem checkSpriteDma_fetchIdx (s : State) : (checkSpriteDma s).fetchIdx = s.fetchIdx := by
  simp only [checkSpriteDma]
@[simp] theorem checkSpriteDma_spriteFetchMsk (s : State) : (checkSpriteDma s).spriteFetchMsk = s.spriteFetchMsk := by
  simp only [checkSpriteDma]
@[simp] theorem checkSpriteDma_spriteFetchIdx (s : State) : (checkSpriteDma s).spriteFetchIdx = s.spriteFetchIdx := by
  simp only [checkSpriteDma]
@[simp] theorem checkSpriteDma_spriteFetchBase (s : State) : (checkSpriteDma s).spriteFetchBase = s.spriteFetchBase := by
  simp only [checkSpriteDma]
@[simp] theorem checkSpriteDma_regs (s : State) : (checkSpriteDma s).regs = s.regs := by
  simp only [checkSpriteDma]
@[simp] theorem checkSpriteDma_videoMode (s : State) : (checkSpriteDma s).videoMode = s.videoMode := by
  simp only [checkSpriteDma]
@[simp] theorem checkSpriteDma_idleState (s : State) : (checkSpriteDma s).idleState = s.idleState := by
  simp only [checkSpriteDma]
@[simp] theorem checkSpriteDma_badLine (s : State) : (checkSpriteDma s).badLine = s.badLine := by
  simp only [checkSpriteDma]
@[simp] theorem checkSpriteDma_allowBadLines (s : State) : (checkSpriteDma s).allowBadLines = s.allowBadLines := by
  simp only [checkSpriteDma]
@[simp] theorem checkSpriteDma_blank (s : State) : (checkSpriteDma s).blank = s.blank := by
  simp only [checkSpriteDma]
@[simp] theorem checkSpriteDma_forceDisplayState (s : State) : (checkSpriteDma s).forceDisplayState = s.forceDisplayState := by
  simp only [checkSpriteDma]
@[simp] theorem checkSpriteDma_ycounter (s : State) : (checkSpriteDma s).ycounter = s.ycounter := by
  simp only [checkSpriteDma]
@[simp] theorem checkSpriteDma_memCounter (s : State) : (checkSpriteDma s).memCounter = s.memCounter := by
  simp only [checkSpriteDma]
@[simp] theorem checkSpriteDma_memptr (s : State) : (checkSpriteDma s).memptr = s.memptr := by
  simp only [checkSpriteDma]
@[simp] theorem checkSpriteDma_memCounterInc (s : State) : (checkSpriteDma s).memCounterInc = s.memCounterInc := by
  simp only [checkSpriteDma]
@[simp] theorem checkSpriteDma_vbuf (s : State) : (checkSpriteDma s).vbuf = s.vbuf := by
  simp only [checkSpriteDma]
@[simp] theorem checkSpriteDma_cbuf (s : State) : (checkSpriteDma s).cbuf = s.cbuf := by
  simp only [checkSpriteDma]
@[simp] theorem checkSpriteDma_backgroundColorSource (s : State) : (checkSpriteDma s).backgroundColorSource = s.backgroundColorSource := by
  simp only [checkSpriteDma]
@[simp] theorem checkSpriteDma_idleData (s : State) : (checkSpriteDma s).idleData = s.idleData := by
  simp only [checkSpriteDma]
@[simp] theorem checkSpriteDma_colorRam (s : State) : (checkSpriteDma s).colorRam = s.colorRam := by
  simp only [checkSpriteDma]
@[simp] theorem checkSpriteDma_vbankPhi1 (s : State) : (checkSpriteDma s).vbankPhi1 = s.vbankPhi1 := by
  simp only [checkSpriteDma]
@[simp] theorem checkSpriteDma_vbankPhi2 (s : State) : (checkSpriteDma s).vbankPhi2 = s.vbankPhi2 := by
  simp only [checkSpriteDma]
@[simp] theorem checkSpriteDma_ramBaseOffset (s : State) : (checkSpriteDma s).ramBaseOffset = s.ramBaseOffset := by
  simp only [checkSpriteDma]
@[simp] theorem checkSpriteDma_irqStatus (s : State) : (checkSpriteDma s).irqStatus = s.irqStatus := by
  simp only [checkSpriteDma]
@[simp] theorem checkSpriteDma_rasterIrqLine (s : State) : (checkSpriteDma s).rasterIrqLine = s.rasterIrqLine := by
  simp only [checkSpriteDma]
@[simp] theorem checkSpriteDma_irqLine (s : State) : (checkSpriteDma s).irqLine = s.irqLine := by
  simp only [checkSpriteDma]
@[simp] theorem checkSpriteDma_spriteSpriteCollisions (s : State) : (checkSpriteDma s).spriteSpriteCollisions = s.spriteSpriteCollisions := by
  simp only [checkSpriteDma]
@[simp] theorem checkSpriteDma_spriteBackgroundCollisions (s : State) : (checkSpriteDma s).spriteBackgroundCollisions = s.spriteBackgroundCollisions := by
  simp only [checkSpriteDma]
@[simp] theorem checkSpriteDma_lastRead (s : State) : (checkSpriteDma s).lastRead = s.lastRead := by
  simp only [checkSpriteDma]
@[simp] theorem checkSpriteDma_lightPen (s : State) : (checkSpriteDma s).lightPen = s.lightPen := by
  simp only [checkSpriteDma]
@[simp] theorem checkSpriteDma_spriteDmaMask (s : State) : (checkSpriteDma s).spriteDmaMask = s.spriteDmaMask := by
  simp only [checkSpriteDma]
@[simp] theorem checkSpriteDma_changes (s : State) : (checkSpriteDma s).changes = s.changes := by
  simp only [checkSpriteDma]
@[simp] theorem checkSpriteDma_lineStart (s : State) : (checkSpriteDma s).lineStart = s.lineStart := by
  simp only [checkSpriteDma]
@[simp] theorem checkSpriteDma_cache (s : State) : (checkSpriteDma s).cache = s.cache := by
  simp only [checkSpriteDma]
@[simp] theorem checkSpriteDma_dirtyRange (s : State) : (checkSpriteDma s).dirtyRange = s.dirtyRange := by
  simp only [checkSpriteDma]
@[simp] theorem checkSpriteDma_borderTop (s : State) : (checkSpriteDma s).borderTop = s.borderTop := by
  simp only [checkSpriteDma]
@[simp] theorem checkSpriteDma_borderBottom (s : State) : (checkSpriteDma s).borderBottom = s.borderBottom := by
  simp only [checkSpriteDma]
@[simp] theorem checkSpriteDma_verticalBorder (s : State) : (checkSpriteDma s).verticalBorder = s.verticalBorder := by
  simp only [checkSpriteDma]
@[simp] theorem checkSpriteDma_ram (s : State) : (checkSpriteDma s).ram = s.ram := by
  simp only [checkSpriteDma]
@[simp] theorem checkSpriteDma_chargen (s : State) : (checkSpriteDma s).chargen = s.chargen := by
  simp only [checkSpriteDma]
@[simp] theorem checkSpriteDma_romh (s : State) : (checkSpriteDma s).romh = s.romh := by
  simp only [checkSpriteDma]
@[simp] theorem checkSpriteDma_memoryTime (s : State) : (checkSpriteDma s).memoryTime = s.memoryTime := by
  simp only [checkSpriteDma]
@[simp] theorem checkSpriteDma_ultimax (s : State) : (checkSpriteDma s).ultimax = s.ultimax := by
  simp only [checkSpriteDma]
@[simp] theorem checkSpriteDma_readData (s : State) : (checkSpriteDma s).readData = s.readData := by
  simp only [checkSpriteDma]
@[simp] theorem checkSpriteDma_stolenCycles (s : State) : (checkSpriteDma s).stolenCycles = s.stolenCycles := by
  simp only [checkSpriteDma]
@[simp] theorem checkSpriteDma_lines (s : State) : (checkSpriteDma s).lines = s.lines := by
  simp only [checkSpriteDma]
@[simp] theorem checkSpriteDma_log (s : State) : (checkSpriteDma s).log = s.log := by
  simp only [checkSpriteDma]
@[simp] theorem checkSpriteDma_snapshotOut (s : State) : (checkSpriteDma s).snapshotOut = s.snapshotOut := by
  simp only [checkSpriteDma]
@[simp] theorem checkSpriteDma_lineCollisions (s : State) : (checkSpriteDma s).lineCollisions = s.lineCollisions := by
  simp only [checkSpriteDma]
@[simp] theorem checkSpriteDma_inbox (s : State) : (checkSpriteDma s).inbox = s.inbox := by
  simp only [checkSpriteDma]
@[simp] theorem checkSpriteDma_operands (s : State) : (checkSpriteDma s).operands = s.operands := by
  simp only [checkSpriteDma]
@[simp] theorem checkSpriteDma_draws (s : State) : (checkSpriteDma s).draws = s.draws := by
  simp only [checkSpriteDma]

/-! fetchColumns -/

@[simp] theorem fetchColumns_cfg (offset count : Nat) (s : State) : (fetchColumns offset count s).cfg = s.cfg := by
  simp only [fetchColumns]
@[simp] theorem fetchColumns_clk (offset count : Nat) (s : State) : (fetchColumns offset count s).clk = s.clk := by
  simp only [fetchColumns]
@[simp] theorem fetchColumns_clkOrigin (offset count : Nat) (s : State) : (fetchColumns offset count s).clkOrigin = s.clkOrigin := by
  simp only [fetchColumns]
@[simp] theorem fetchColumns_currentLine (offset count : Nat) (s : State) : (fetchColumns offset count s).currentLine = s.currentLine := by
  simp only [fetchColumns]
@[simp] theorem fetchColumns_fetchClk (offset count : Nat) (s : State) : (fetchColumns offset count s).fetchClk = s.fetchClk := by
  simp only [fetchColumns]
@[simp] theorem fetchColumns_drawClk (offset count : Nat) (s : State) : (fetchColumns offset count s).drawClk = s.drawClk := by
  simp only [fetchColumns]
@[simp] theorem fetchColumns_rasterIrqClk (offset count : Nat) (s : State) : (fetchColumns offset count s).rasterIrqClk = s.rasterIrqClk := by
  simp only [fetchColumns]
@[simp] theorem fetchColumns_fetchIdx (offset count : Nat) (s : State) : (fetchColumns offset count s).fetchIdx = s.fetchIdx := by
  simp only [fetchColumns]
@[simp] theorem fetchColumns_spriteFetchMsk (offset count : Nat) (s : State) : (fetchColumns offset count s).spriteFetchMsk = s.spriteFetchMsk := by
  simp only [fetchColumns]
@[simp] theorem fetchColumns_spriteFetchIdx (offset count : Nat) (s : State) : (fetchColumns offset count s).spriteFetchIdx = s.spriteFetchIdx := by
  simp only [fetchColumns]
@[simp] theorem fetchColumns_spriteFetchBase (offset count : Nat) (s : State) : (fetchColumns offset count s).spriteFetchBase = s.spriteFetchBase := by
  simp only [fetchColumns]
@[simp] theorem fetchColumns_regs (offset count : Nat) (s : State) : (fetchColumns offset count s).regs = s.regs := by
  simp only [fetchColumns]
@[simp] theorem fetchColumns_videoMode (offset count : Nat) (s : State) : (fetchColumns offset count s).videoMode = s.videoMode := by
  simp only [fetchColumns]
@[simp] theorem fetchColumns_idleState (offset count : Nat) (s : State) : (fetchColumns offset count s).idleState = s.idleState := by
  simp only [fetchColumns]
@[simp] theorem fetchColumns_badLine (offset count : Nat) (s : State) : (fetchColumns offset count s).badLine = s.badLine := by
  simp only [fetchColumns]
@[simp] theorem fetchColumns_allowBadLines (offset count : Nat) (s : State) : (fetchColumns offset count s).allowBadLines = s.allowBadLines := by
  simp only [fetchColumns]
@[simp] theorem fetchColumns_blank (offset count : Nat) (s : State) : (fetchColumns offset count s).blank = s.blank := by
  simp only [fetchColumns]
@[simp] theorem fetchColumns_forceDisplayState (offset count : Nat) (s : State) : (fetchColumns offset count s).forceDisplayState = s.forceDisplayState := by
  simp only [fetchColumns]
@[simp] theorem fetchColumns_ycounter (offset count : Nat) (s : State) : (fetchColumns offset count s).ycounter = s.ycounter := by
  simp only [fetchColumns]
@[simp] theorem fetchColumns_memCounter (offset count : Nat) (s : State) : (fetchColumns offset count s).memCounter = s.memCounter := by
  simp only [fetchColumns]
@[simp] theorem fetchColumns_memptr (offset count : Nat) (s : State) : (fetchColumns offset count s).memptr = s.memptr := by
  simp only [fetchColumns]
@[simp] theorem fetchColumns_memCounterInc (offset count : Nat) (s : State) : (fetchColumns offset count s).memCounterInc = s.memCounterInc := by
  simp only [fetchColumns]
@[simp] theorem fetchColumns_idleData (offset count : Nat) (s : State) : (fetchColumns offset count s).idleData = s.idleData := by
  simp only [fetchColumns]
@[simp] theorem fetchColumns_colorRam (offset count : Nat) (s : State) : (fetchColumns offset count s).colorRam = s.colorRam := by
  simp only [fetchColumns]
@[simp] theorem fetchColumns_vbankPhi1 (offset count : Nat) (s : State) : (fetchColumns offset count s).vbankPhi1 = s.vbankPhi1 := by
  simp only [fetchColumns]
@[simp] theorem fetchColumns_vbankPhi2 (offset count : Nat) (s : State) : (fetchColumns offset count s).vbankPhi2 = s.vbankPhi2 := by
  simp only [fetchColumns]
@[simp] theorem fetchColumns_ramBaseOffset (offset count : Nat) (s : State) : (fetchColumns offset count s).ramBaseOffset = s.ramBaseOffset := by
  simp only [fetchColumns]
@[simp] theorem fetchColumns_irqStatus (offset count : Nat) (s : State) : (fetchColumns offset count s).irqStatus = s.irqStatus := by
  simp only [fetchColumns]
@[simp] theorem fetchColumns_rasterIrqLine (offset count : Nat) (s : State) : (fetchColumns offset count s).rasterIrqLine = s.rasterIrqLine := by
  simp only [fetchColumns]
@[simp] theorem fetchColumns_irqLine (offset count : Nat) (s : State) : (fetchColumns offset count s).irqLine = s.irqLine := by
  simp only [fetchColumns]
@[simp] theorem fetchColumns_spriteSpriteCollisions (offset count : Nat) (s : State) : (fetchColumns offset count s).spriteSpriteCollisions = s.spriteSpriteCollisions := by
  simp only [fetchColumns]
@[simp] theorem fetchColumns_spriteBackgroundCollisions (offset count : Nat) (s : State) : (fetchColumns offset count s).spriteBackgroundCollisions = s.spriteBackgroundCollisions := by
  simp only [fetchColumns]
@[simp] theorem fetchColumns_lastRead (offset count : Nat) (s : State) : (fetchColumns offset count s).lastRead = s.lastRead := by
  simp only [fetchColumns]
@[simp] theorem fetchColumns_lightPen (offset count : Nat) (s : State) : (fetchColumns offset count s).lightPen = s.lightPen := by
  simp only [fetchColumns]
@[simp] theorem fetchColumns_sprites (offset count : Nat) (s : State) : (fetchColumns offset count s).sprites = s.sprites := by
  simp only [fetchColumns]
@[simp] theorem fetchColumns_newSpriteDmaMask (offset count : Nat) (s : State) : (fetchColumns offset count s).newSpriteDmaMask = s.newSpriteDmaMask := by
  simp only [fetchColumns]
@[simp] theorem fetchColumns_spriteDmaMask (offset count : Nat) (s : State) : (fetchColumns offset count s).spriteDmaMask = s.spriteDmaMask := by
  simp only [fetchColumns]
@[simp] theorem fetchColumns_changes (offset count : Nat) (s : State) : (fetchColumns offset count s).changes = s.changes := by
  simp only [fetchColumns]
@[simp] theorem fetchColumns_lineStart (offset count : Nat) (s : State) : (fetchColumns offset count s).lineStart = s.lineStart := by
  simp only [fetchColumns]
@[simp] theorem fetchColumns_cache (offset count : Nat) (s : State) : (fetchColumns offset count s).cache = s.cache := by
  simp only [fetchColumns]
@[simp] theorem fetchColumns_dirtyRange (offset count : Nat) (s : State) : (fetchColumns offset count s).dirtyRange = s.dirtyRange := by
  simp only [fetchColumns]
@[simp] theorem fetchColumns_borderTop (offset count : Nat) (s : State) : (fetchColumns offset count s).borderTop = s.borderTop := by
  simp only [fetchColumns]
@[simp] theorem fetchColumns_borderBottom (offset count : Nat) (s : State) : (fetchColumns offset count s).borderBottom = s.borderBottom := by
  simp only [fetchColumns]
@[simp] theorem fetchColumns_verticalBorder (offset count : Nat) (s : State) : (fetchColumns offset count s).verticalBorder = s.verticalBorder := by
  simp only [fetchColumns]
@[simp] theorem fetchColumns_ram (offset count : Nat) (s : State) : (fetchColumns offset count s).ram = s.ram := by
  simp only [fetchColumns]
@[simp] theorem fetchColumns_chargen (offset count : Nat) (s : State) : (fetchColumns offset count s).chargen = s.chargen := by
  simp only [fetchColumns]
@[simp] theorem fetchColumns_romh (offset count : Nat) (s : State) : (fetchColumns offset count s).romh = s.romh := by
  simp only [fetchColumns]
@[simp] theorem fetchColumns_memoryTime (offset count : Nat) (s : State) : (fetchColumns offset count s).memoryTime = s.memoryTime := by
  simp only [fetchColumns]
@[simp] theorem fetchColumns_ultimax (offset count : Nat) (s : State) : (fetchColumns offset count s).ultimax = s.ultimax := by
  simp only [fetchColumns]
@[simp] theorem fetchColumns_readData (offset count : Nat) (s : State) : (fetchColumns offset count s).readData = s.readData := by
  simp only [fetchColumns]
@[simp] theorem fetchColumns_stolenCycles (offset count : Nat) (s : State) : (fetchColumns offset count s).stolenCycles = s.stolenCycles := by
  simp only [fetchColumns]
@[simp] theorem fetchColumns_lines (offset count : Nat) (s : State) : (fetchColumns offset count s).lines = s.lines := by
  simp only [fetchColumns]
@[simp] theorem fetchColumns_log (offset count : Nat) (s : State) : (fetchColumns offset count s).log = s.log := by
  simp only [fetchColumns]
@[simp] theorem fetchColumns_snapshotOut (offset count : Nat) (s : State) : (fetchColumns offset count s).snapshotOut = s.snapshotOut := by
  simp only [fetchColumns]
@[simp] theorem fetchColumns_lineCollisions (offset count : Nat) (s : State) : (fetchColumns offset count s).lineCollisions = s.lineCollisions := by
  simp only [fetchColumns]
@[simp] theorem fetchColumns_inbox (offset count : Nat) (s : State) : (fetchColumns offset count s).inbox = s.inbox := by
  simp only [fetchColumns]
@[simp] theorem fetchColumns_operands (offset count : Nat) (s : State) : (fetchColumns offset count s).operands = s.operands := by
  simp only [fetchColumns]
@[simp] theorem fetchColumns_draws (offset count : Nat) (s : State) : (fetchColumns offset count s).draws = s.draws := by
  simp only [fetchColumns]

/-! armRasterCompare -/

@[simp] theorem armRasterCompare_cfg (s : State) : (armRasterCompare s).cfg = s.cfg := by
  simp only [armRasterCompare, State.logMessage, apply_ite State.cfg, ite_self]
@[simp] theorem armRasterCompare_clk (s : State) : (armRasterCompare s).clk = s.clk := by
  simp only [armRasterCompare, State.logMessage, apply_ite State.clk, ite_self]
@[simp] theorem armRasterCompare_clkOrigin (s : State) : (armRasterCompare s).clkOrigin = s.clkOrigin := by
  simp only [armRasterCompare, State.logMessage, apply_ite State.clkOrigin, ite_self]
@[simp] theorem armRasterCompare_currentLine (s : State) : (armRasterCompare s).currentLine = s.currentLine := by
  simp only [armRasterCompare, State.logMessage, apply_ite State.currentLine, ite_self]
@[simp] theorem armRasterCompare_fetchClk (s : State) : (armRasterCompare s).fetchClk = s.fetchClk := by
  simp only [armRasterCompare, State.logMessage, apply_ite State.fetchClk, ite_self]
@[simp] theorem armRasterCompare_drawClk (s : State) : (armRasterCompare s).drawClk = s.drawClk := by
  simp only [armRasterCompare, State.logMessage, apply_ite State.drawClk, ite_self]
@[simp] theorem armRasterCompare_fetchIdx (s : State) : (armRasterCompare s).fetchIdx = s.fetchIdx := by
  simp only [armRasterCompare, State.logMessage, apply_ite State.fetchIdx, ite_self]
@[simp] theorem armRasterCompare_spriteFetchMsk (s : State) : (armRasterCompare s).spriteFetchMsk = s.spriteFetchMsk := by
  simp only [armRasterCompare, State.logMessage, apply_ite State.spriteFetchMsk, ite_self]
@[simp] theorem armRasterCompare_spriteFetchIdx (s : State) : (armRasterCompare s).spriteFetchIdx = s.spriteFetchIdx := by
  simp only [armRasterCompare, State.logMessage, apply_ite State.spriteFetchIdx, ite_self]
@[simp] theorem armRasterCompare_spriteFetchBase (s : State) : (armRasterCompare s).spriteFetchBase = s.spriteFetchBase := by
  simp only [armRasterCompare, State.logMessage, apply_ite State.spriteFetchBase, ite_self]
@[simp] theorem armRasterCompare_regs (s : State) : (armRasterCompare s).regs = s.regs := by
  simp only [armRasterCompare, State.logMessage, apply_ite State.regs, ite_self]
@[simp] theorem armRasterCompare_videoMode (s : State) : (armRasterCompare s).videoMode = s.videoMode := by
  simp only [armRasterCompare, State.logMessage, apply_ite State.videoMode, ite_self]
@[simp] theorem armRasterCompare_idleState (s : State) : (armRasterCompare s).idleState = s.idleState := by
  simp only [armRasterCompare, State.logMessage, apply_ite State.idleState, ite_self]
@[simp] theorem armRasterCompare_badLine (s : State) : (armRasterCompare s).badLine = s.badLine := by
  simp only [armRasterCompare, State.logMessage, apply_ite State.badLine, ite_self]
@[simp] theorem armRasterCompare_allowBadLines (s : State) : (armRasterCompare s).allowBadLines = s.allowBadLines := by
  simp only [armRasterCompare, State.logMessage, apply_ite State.allowBadLines, ite_self]
@[simp] theorem armRasterCompare_blank (s : State) : (armRasterCompare s).blank = s.blank := by
  simp only [armRasterCompare, State.logMessage, apply_ite State.blank, ite_self]
@[simp] theorem armRasterCompare_forceDisplayState (s : State) : (armRasterCompare s).forceDisplayState = s.forceDisplayState := by
  simp only [armRasterCompare, State.logMessage, apply_ite State.forceDisplayState, ite_self]
@[simp] theorem armRasterCompare_ycounter (s : State) : (armRasterCompare s).ycounter = s.ycounter := by
  simp only [armRasterCompare, State.logMessage, apply_ite State.ycounter, ite_self]
@[simp] theorem armRasterCompare_memCounter (s : State) : (armRasterCompare s).memCounter = s.memCounter := by
  simp only [armRasterCompare, State.logMessage, apply_ite State.memCounter, ite_self]
@[simp] theorem armRasterCompare_memptr (s : State) : (armRasterCompare s).memptr = s.memptr := by
  simp only [armRasterCompare, State.logMessage, apply_ite State.memptr, ite_self]
@[simp] theorem armRasterCompare_memCounterInc (s : State) : (armRasterCompare s).memCounterInc = s.memCounterInc := by
  simp only [armRasterCompare, State.logMessage, apply_ite State.memCounterInc, ite_self]
@[simp] theorem armRasterCompare_vbuf (s : State) : (armRasterCompare s).vbuf = s.vbuf := by
  simp only [armRasterCompare, State.logMessage, apply_ite State.vbuf, ite_self]
@[simp] theorem armRasterCompare_cbuf (s : State) : (armRasterCompare s).cbuf = s.cbuf := by
  simp only [armRasterCompare, State.logMessage, apply_ite State.cbuf, ite_self]
@[simp] theorem armRasterCompare_backgroundColorSource (s : State) : (armRasterCompare s).backgroundColorSource = s.backgroundColorSource := by
  simp only [armRasterCompare, State.logMessage, apply_ite State.backgroundColorSource, ite_self]
@[simp] theorem armRasterCompare_idleData (s : State) : (armRasterCompare s).idleData = s.idleData := by
  simp only [armRasterCompare, State.logMessage, apply_ite State.idleData, ite_self]
@[simp] theorem armRasterCompare_colorRam (s : State) : (armRasterCompare s).colorRam = s.colorRam := by
  simp only [armRasterCompare, State.logMessage, apply_ite State.colorRam, ite_self]
@[simp] theorem armRasterCompare_vbankPhi1 (s : State) : (armRasterCompare s).vbankPhi1 = s.vbankPhi1 := by
  simp only [armRasterCompare, State.logMessage, apply_ite State.vbankPhi1, ite_self]
@[simp] theorem armRasterCompare_vbankPhi2 (s : State) : (armRasterCompare s).vbankPhi2 = s.vbankPhi2 := by
  simp only [armRasterCompare, State.logMessage, apply_ite State.vbankPhi2, ite_self]
@[simp] theorem armRasterCompare_ramBaseOffset (s : State) : (armRasterCompare s).ramBaseOffset = s.ramBaseOffset := by
  simp only [armRasterCompare, State.logMessage, apply_ite State.ramBaseOffset, ite_self]
@[simp] theorem armRasterCompare_irqStatus (s : State) : (armRasterCompare s).irqStatus = s.irqStatus := by
  simp only [armRasterCompare, State.logMessage, apply_ite State.irqStatus, ite_self]
@[simp] theorem armRasterCompare_irqLine (s : State) : (armRasterCompare s).irqLine = s.irqLine := by
  simp only [armRasterCompare, State.logMessage, apply_ite State.irqLine, ite_self]
@[simp] theorem armRasterCompare_spriteSpriteCollisions (s : State) : (armRasterCompare s).spriteSpriteCollisions = s.spriteSpriteCollisions := by
  simp only [armRasterCompare, State.logMessage, apply_ite State.spriteSpriteCollisions, ite_self]
@[simp] theorem armRasterCompare_spriteBackgroundCollisions (s : State) : (armRasterCompare s).spriteBackgroundCollisions = s.spriteBackgroundCollisions := by
  simp only [armRasterCompare, State.logMessage, apply_ite State.spriteBackgroundCollisions, ite_self]
@[simp] theorem armRasterCompare_lastRead (s : State) : (armRasterCompare s).lastRead = s.lastRead := by
  simp only [armRasterCompare, State.logMessage, apply_ite State.lastRead, ite_self]
@[simp] theorem armRasterCompare_lightPen (s : State) : (armRasterCompare s).lightPen = s.lightPen := by
  simp only [armRasterCompare, State.logMessage, apply_ite State.lightPen, ite_self]
@[simp] theorem armRasterCompare_sprites (s : State) : (armRasterCompare s).sprites = s.sprites := by
  simp only [armRasterCompare, State.logMessage, apply_ite State.sprites, ite_self]
@[simp] theorem armRasterCompare_newSpriteDmaMask (s : State) : (armRasterCompare s).newSpriteDmaMask = s.newSpriteDmaMask := by
  simp only [armRasterCompare, State.logMessage, apply_ite State.newSpriteDmaMask, ite_self]
@[simp] theorem armRasterCompare_spriteDmaMask (s : State) : (armRasterCompare s).spriteDmaMask = s.spriteDmaMask := by
  simp only [armRasterCompare, State.logMessage, apply_ite State.spriteDmaMask, ite_self]
@[simp] theorem armRasterCompare_changes (s : State) : (armRasterCompare s).changes = s.changes := by
  simp only [armRasterCompare, State.logMessage, apply_ite State.changes, ite_self]
@[simp] theorem armRasterCompare_lineStart (s : State) : (armRasterCompare s).lineStart = s.lineStart := by
  simp only [armRasterCompare, State.logMessage, apply_ite State.lineStart, ite_self]
@[simp] theorem armRasterCompare_cache (s : State) : (armRasterCompare s).cache = s.cache := by
  simp only [armRasterCompare, State.logMessage, apply_ite State.cache, ite_self]
@[simp] theorem armRasterCompare_dirtyRange (s : State) : (armRasterCompare s).dirtyRange = s.dirtyRange := by
  simp only [armRasterCompare, State.logMessage, apply_ite State.dirtyRange, ite_self]
@[simp] theorem armRasterCompare_borderTop (s : State) : (armRasterCompare s).borderTop = s.borderTop := by
  simp only [armRasterCompare, State.logMessage, apply_ite State.borderTop, ite_self]
@[simp] theorem armRasterCompare_borderBottom (s : State) : (armRasterCompare s).borderBottom = s.borderBottom := by
  simp only [armRasterCompare, State.logMessage, apply_ite State.borderBottom, ite_self]
@[simp] theorem armRasterCompare_verticalBorder (s : State) : (armRasterCompare s).verticalBorder = s.verticalBorder := by
  simp only [armRasterCompare, State.logMessage, apply_ite State.verticalBorder, ite_self]
@[simp] theorem armRasterCompare_ram (s : State) : (armRasterCompare s).ram = s.ram := by
  simp only [armRasterCompare, State.logMessage, apply_ite State.ram, ite_self]
@[simp] theorem armRasterCompare_chargen (s : State) : (armRasterCompare s).chargen = s.chargen := by
  simp only [armRasterCompare, State.logMessage, apply_ite State.chargen, ite_self]
@[simp] theorem armRasterCompare_romh (s : State) : (armRasterCompare s).romh = s.romh := by
  simp only [armRasterCompare, State.logMessage, apply_ite State.romh, ite_self]
@[simp] theorem armRasterCompare_memoryTime (s : State) : (armRasterCompare s).memoryTime = s.memoryTime := by
  simp only [armRasterCompare, State.logMessage, apply_ite State.memoryTime, ite_self]
@[simp] theorem armRasterCompare_ultimax (s : State) : (armRasterCompare s).ultimax = s.ultimax := by
  simp only [armRasterCompare, State.logMessage, apply_ite State.ultimax, ite_self]
@[simp] theorem armRasterCompare_readData (s : State) : (armRasterCompare s).readData = s.readData := by
  simp only [armRasterCompare, State.logMessage, apply_ite State.readData, ite_self]
@[simp] theorem armRasterCompare_stolenCycles (s : State) : (armRasterCompare s).stolenCycles = s.stolenCycles := by
  simp only [armRasterCompare, State.logMessage, apply_ite State.stolenCycles, ite_self]
@[simp] theorem armRasterCompare_lines (s : State) : (armRasterCompare s).lines = s.lines := by
  simp only [armRasterCompare, State.logMessage, apply_ite State.lines, ite_self]
@[simp] theorem armRasterCompare_snapshotOut (s : State) : (armRasterCompare s).snapshotOut = s.snapshotOut := by
  simp only [armRasterCompare, State.logMessage, apply_ite State.snapshotOut, ite_self]
@[simp] theorem armRasterCompare_lineCollisions (s : State) : (armRasterCompare s).lineCollisions = s.lineCollisions := by
  simp only [armRasterCompare, State.logMessage, apply_ite State.lineCollisions, ite_self]
@[simp] theorem armRasterCompare_inbox (s : State) : (armRasterCompare s).inbox = s.inbox := by
  simp only [armRasterCompare, State.logMessage, apply_ite State.inbox, ite_self]
@[simp] theorem armRasterCompare_operands (s : State) : (armRasterCompare s).operands = s.operands := by
  simp only [armRasterCompare, State.logMessage, apply_ite State.operands, ite_self]
@[simp] theorem armRasterCompare_draws (s : State) : (armRasterCompare s).draws = s.draws := by
  simp only [armRasterCompare, State.logMessage, apply_ite State.draws, ite_self]

/-! updateRasterCompare -/

@[simp] theorem updateRasterCompare_cfg (s : State) : (updateRasterCompare s).cfg = s.cfg := by
  simp only [updateRasterCompare, raiseIrq, updateIrqLine, armRasterCompare_cfg, apply_ite State.cfg, ite_self]
@[simp] theorem updateRasterCompare_clk (s : State) : (updateRasterCompare s).clk = s.clk := by
  simp only [updateRasterCompare, raiseIrq, updateIrqLine, armRasterCompare_clk, apply_ite State.clk, ite_self]
@[simp] theorem updateRasterCompare_clkOrigin (s : State) : (updateRasterCompare s).clkOrigin = s.clkOrigin := by
  simp only [updateRasterCompare, raiseIrq, updateIrqLine, armRasterCompare_clkOrigin, apply_ite State.clkOrigin, ite_self]
@[simp] theorem updateRasterCompare_currentLine (s : State) : (updateRasterCompare s).currentLine = s.currentLine := by
  simp only [updateRasterCompare, raiseIrq, updateIrqLine, armRasterCompare_currentLine, apply_ite State.currentLine, ite_self]
@[simp] theorem updateRasterCompare_fetchClk (s : State) : (updateRasterCompare s).fetchClk = s.fetchClk := by
  simp only [updateRasterCompare, raiseIrq, updateIrqLine, armRasterCompare_fetchClk, apply_ite State.fetchClk, ite_self]
@[simp] theorem updateRasterCompare_drawClk (s : State) : (updateRasterCompare s).drawClk = s.drawClk := by
  simp only [updateRasterCompare, raiseIrq, updateIrqLine, armRasterCompare_drawClk, apply_ite State.drawClk, ite_self]
@[simp] theorem updateRasterCompare_fetchIdx (s : State) : (updateRasterCompare s).fetchIdx = s.fetchIdx := by
  simp only [updateRasterCompare, raiseIrq, updateIrqLine, armRasterCompare_fetchIdx, apply_ite State.fetchIdx, ite_self]
@[simp] theorem updateRasterCompare_spriteFetchMsk (s : State) : (updateRasterCompare s).spriteFetchMsk = s.spriteFetchMsk := by
  simp only [updateRasterCompare, raiseIrq, updateIrqLine, armRasterCompare_spriteFetchMsk, apply_ite State.spriteFetchMsk, ite_self]
@[simp] theorem updateRasterCompare_spriteFetchIdx (s : State) : (updateRasterCompare s).spriteFetchIdx = s.spriteFetchIdx := by
  simp only [updateRasterCompare, raiseIrq, updateIrqLine, armRasterCompare_spriteFetchIdx, apply_ite State.spriteFetchIdx, ite_self]
@[simp] theorem updateRasterCompare_spriteFetchBase (s : State) : (updateRasterCompare s).spriteFetchBase = s.spriteFetchBase := by
  simp only [updateRasterCompare, raiseIrq, updateIrqLine, armRasterCompare_spriteFetchBase, apply_ite State.spriteFetchBase, ite_self]
@[simp] theorem updateRasterCompare_regs (s : State) : (updateRasterCompare s).regs = s.regs := by
  simp only [updateRasterCompare, raiseIrq, updateIrqLine, armRasterCompare_regs, apply_ite State.regs, ite_self]
@[simp] theorem updateRasterCompare_videoMode (s : State) : (updateRasterCompare s).videoMode = s.videoMode := by
  simp only [updateRasterCompare, raiseIrq, updateIrqLine, armRasterCompare_videoMode, apply_ite State.videoMode, ite_self]
@[simp] theorem updateRasterCompare_idleState (s : State) : (updateRasterCompare s).idleState = s.idleState := by
  simp only [updateRasterCompare, raiseIrq, updateIrqLine, armRasterCompare_idleState, apply_ite State.idleState, ite_self]
@[simp] theorem updateRasterCompare_badLine (s : State) : (updateRasterCompare s).badLine = s.badLine := by
  simp only [updateRasterCompare, raiseIrq, updateIrqLine, armRasterCompare_badLine, apply_ite State.badLine, ite_self]
@[simp] theorem updateRasterCompare_allowBadLines (s : State) : (updateRasterCompare s).allowBadLines = s.allowBadLines := by
  simp only [updateRasterCompare, raiseIrq, updateIrqLine, armRasterCompare_allowBadLines, apply_ite State.allowBadLines, ite_self]
@[simp] theorem updateRasterCompare_blank (s : State) : (updateRasterCompare s).blank = s.blank := by
  simp only [updateRasterCompare, raiseIrq, updateIrqLine, armRasterCompare_blank, apply_ite State.blank, ite_self]
@[simp] theorem updateRasterCompare_forceDisplayState (s : State) : (updateRasterCompare s).forceDisplayState = s.forceDisplayState := by
  simp only [updateRasterCompare, raiseIrq, updateIrqLine, armRasterCompare_forceDisplayState, apply_ite State.forceDisplayState, ite_self]
@[simp] theorem updateRasterCompare_ycounter (s : State) : (updateRasterCompare s).ycounter = s.ycounter := by
  simp only [updateRasterCompare, raiseIrq, updateIrqLine, armRasterCompare_ycounter, apply_ite State.ycounter, ite_self]
@[simp] theorem updateRasterCompare_memCounter (s : State) : (updateRasterCompare s).memCounter = s.memCounter := by
  simp only [updateRasterCompare, raiseIrq, updateIrqLine, armRasterCompare_memCounter, apply_ite State.memCounter, ite_self]
@[simp] theorem updateRasterCompare_memptr (s : State) : (updateRasterCompare s).memptr = s.memptr := by
  simp only [updateRasterCompare, raiseIrq, updateIrqLine, armRasterCompare_memptr, apply_ite State.memptr, ite_self]
@[simp] theorem updateRasterCompare_memCounterInc (s : State) : (updateRasterCompare s).memCounterInc = s.memCounterInc := by
  simp only [updateRasterCompare, raiseIrq, updateIrqLine, armRasterCompare_memCounterInc, apply_ite State.memCounterInc, ite_self]
@[simp] theorem updateRasterCompare_vbuf (s : State) : (updateRasterCompare s).vbuf = s.vbuf := by
  simp only [updateRasterCompare, raiseIrq, updateIrqLine, armRasterCompare_vbuf, apply_ite State.vbuf, ite_self]
@[simp] theorem updateRasterCompare_cbuf (s : State) : (updateRasterCompare s).cbuf = s.cbuf := by
  simp only [updateRasterCompare, raiseIrq, updateIrqLine, armRasterCompare_cbuf, apply_ite State.cbuf, ite_self]
@[simp] theorem updateRasterCompare_backgroundColorSource (s : State) : (updateRasterCompare s).backgroundColorSource = s.backgroundColorSource := by
  simp only [updateRasterCompare, raiseIrq, updateIrqLine, armRasterCompare_backgroundColorSource, apply_ite State.backgroundColorSource, ite_self]
@[simp] theorem updateRasterCompare_idleData (s : State) : (updateRasterCompare s).idleData = s.idleData := by
  simp only [updateRasterCompare, raiseIrq, updateIrqLine, armRasterCompare_idleData, apply_ite State.idleData, ite_self]
@[simp] theorem updateRasterCompare_colorRam (s : State) : (updateRasterCompare s).colorRam = s.colorRam := by
  simp only [updateRasterCompare, raiseIrq, updateIrqLine, armRasterCompare_colorRam, apply_ite State.colorRam, ite_self]
@[simp] theorem updateRasterCompare_vbankPhi1 (s : State) : (updateRasterCompare s).vbankPhi1 = s.vbankPhi1 := by
  simp only [updateRasterCompare, raiseIrq, updateIrqLine, armRasterCompare_vbankPhi1, apply_ite State.vbankPhi1, ite_self]
@[simp] theorem updateRasterCompare_vbankPhi2 (s : State) : (updateRasterCompare s).vbankPhi2 = s.vbankPhi2 := by
  simp only [updateRasterCompare, raiseIrq, updateIrqLine, armRasterCompare_vbankPhi2, apply_ite State.vbankPhi2, ite_self]
@[simp] theorem updateRasterCompare_ramBaseOffset (s : State) : (updateRasterCompare s).ramBaseOffset = s.ramBaseOffset := by
  simp only [updateRasterCompare, raiseIrq, updateIrqLine, armRasterCompare_ramBaseOffset, apply_ite State.ramBaseOffset, ite_self]
@[simp] theorem updateRasterCompare_spriteSpriteCollisions (s : State) : (updateRasterCompare s).spriteSpriteCollisions = s.spriteSpriteCollisions := by
  simp only [updateRasterCompare, raiseIrq, updateIrqLine, armRasterCompare_spriteSpriteCollisions, apply_ite State.spriteSpriteCollisions, ite_self]
@[simp] theorem updateRasterCompare_spriteBackgroundCollisions (s : State) : (updateRasterCompare s).spriteBackgroundCollisions = s.spriteBackgroundCollisions := by
  simp only [updateRasterCompare, raiseIrq, updateIrqLine, armRasterCompare_spriteBackgroundCollisions, apply_ite State.spriteBackgroundCollisions, ite_self]
@[simp] theorem updateRasterCompare_lastRead (s : State) : (updateRasterCompare s).lastRead = s.lastRead := by
  simp only [updateRasterCompare, raiseIrq, updateIrqLine, armRasterCompare_lastRead, apply_ite State.lastRead, ite_self]
@[simp] theorem updateRasterCompare_lightPen (s : State) : (updateRasterCompare s).lightPen = s.lightPen := by
  simp only [updateRasterCompare, raiseIrq, updateIrqLine, armRasterCompare_lightPen, apply_ite State.lightPen, ite_self]
@[simp] theorem updateRasterCompare_sprites (s : State) : (updateRasterCompare s).sprites = s.sprites := by
  simp only [updateRasterCompare, raiseIrq, updateIrqLine, armRasterCompare_sprites, apply_ite State.sprites, ite_self]
@[simp] theorem updateRasterCompare_newSpriteDmaMask (s : State) : (updateRasterCompare s).newSpriteDmaMask = s.newSpriteDmaMask := by
  simp only [updateRasterCompare, raiseIrq, updateIrqLine, armRasterCompare_newSpriteDmaMask, apply_ite State.newSpriteDmaMask, ite_self]
@[simp] theorem updateRasterCompare_spriteDmaMask (s : State) : (updateRasterCompare s).spriteDmaMask = s.spriteDmaMask := by
  simp only [updateRasterCompare, raiseIrq, updateIrqLine, armRasterCompare_spriteDmaMask, apply_ite State.spriteDmaMask, ite_self]
@[simp] theorem updateRasterCompare_changes (s : State) : (updateRasterCompare s).changes = s.changes := by
  simp only [updateRasterCompare, raiseIrq, updateIrqLine, armRasterCompare_changes, apply_ite State.changes, ite_self]
@[simp] theorem updateRasterCompare_lineStart (s : State) : (updateRasterCompare s).lineStart = s.lineStart := by
  simp only [updateRasterCompare, raiseIrq, updateIrqLine, armRasterCompare_lineStart, apply_ite State.lineStart, ite_self]
@[simp] theorem updateRasterCompare_cache (s : State) : (updateRasterCompare s).cache = s.cache := by
  simp only [updateRasterCompare, raiseIrq, updateIrqLine, armRasterCompare_cache, apply_ite State.cache, ite_self]
@[simp] theorem updateRasterCompare_dirtyRange (s : State) : (updateRasterCompare s).dirtyRange = s.dirtyRange := by
  simp only [updateRasterCompare, raiseIrq, updateIrqLine, armRasterCompare_dirtyRange, apply_ite State.dirtyRange, ite_self]
@[simp] theorem updateRasterCompare_borderTop (s : State) : (updateRasterCompare s).borderTop = s.borderTop := by
  simp only [updateRasterCompare, raiseIrq, updateIrqLine, armRasterCompare_borderTop, apply_ite State.borderTop, ite_self]
@[simp] theorem updateRasterCompare_borderBottom (s : State) : (updateRasterCompare s).borderBottom = s.borderBottom := by
  simp only [updateRasterCompare, raiseIrq, updateIrqLine, armRasterCompare_borderBottom, apply_ite State.borderBottom, ite_self]
@[simp] theorem updateRasterCompare_verticalBorder (s : State) : (updateRasterCompare s).verticalBorder = s.verticalBorder := by
  simp only [updateRasterCompare, raiseIrq, updateIrqLine, armRasterCompare_verticalBorder, apply_ite State.verticalBorder, ite_self]
@[simp] theorem updateRasterCompare_ram (s : State) : (updateRasterCompare s).ram = s.ram := by
  simp only [updateRasterCompare, raiseIrq, updateIrqLine, armRasterCompare_ram, apply_ite State.ram, ite_self]
@[simp] theorem updateRasterCompare_chargen (s : State) : (updateRasterCompare s).chargen = s.chargen := by
  simp only [updateRasterCompare, raiseIrq, updateIrqLine, armRasterCompare_chargen, apply_ite State.chargen, ite_self]
@[simp] theorem updateRasterCompare_romh (s : State) : (updateRasterCompare s).romh = s.romh := by
  simp only [updateRasterCompare, raiseIrq, updateIrqLine, armRasterCompare_romh, apply_ite State.romh, ite_self]
@[simp] theorem updateRasterCompare_memoryTime (s : State) : (updateRasterCompare s).memoryTime = s.memoryTime := by
  simp only [updateRasterCompare, raiseIrq, updateIrqLine, armRasterCompare_memoryTime, apply_ite State.memoryTime, ite_self]
@[simp] theorem updateRasterCompare_ultimax (s : State) : (updateRasterCompare s).ultimax = s.ultimax := by
  simp only [updateRasterCompare, raiseIrq, updateIrqLine, armRasterCompare_ultimax, apply_ite State.ultimax, ite_self]
@[simp] theorem updateRasterCompare_readData (s : State) : (updateRasterCompare s).readData = s.readData := by
  simp only [updateRasterCompare, raiseIrq, updateIrqLine, armRasterCompare_readData, apply_ite State.readData, ite_self]
@[simp] theorem updateRasterCompare_stolenCycles (s : State) : (updateRasterCompare s).stolenCycles = s.stolenCycles := by
  simp only [updateRasterCompare, raiseIrq, updateIrqLine, armRasterCompare_stolenCycles, apply_ite State.stolenCycles, ite_self]
@[simp] theorem updateRasterCompare_lines (s : State) : (updateRasterCompare s).lines = s.lines := by
  simp only [updateRasterCompare, raiseIrq, updateIrqLine, armRasterCompare_lines, apply_ite State.lines, ite_self]
@[simp] theorem updateRasterCompare_snapshotOut (s : State) : (updateRasterCompare s).snapshotOut = s.snapshotOut := by
  simp only [updateRasterCompare, raiseIrq, updateIrqLine, armRasterCompare_snapshotOut, apply_ite State.snapshotOut, ite_self]
@[simp] theorem updateRasterCompare_lineCollisions (s : State) : (updateRasterCompare s).lineCollisions = s.lineCollisions := by
  simp only [updateRasterCompare, raiseIrq, updateIrqLine, armRasterCompare_lineCollisions, apply_ite State.lineCollisions, ite_self]
@[simp] theorem updateRasterCompare_inbox (s : State) : (updateRasterCompare s).inbox = s.inbox := by
  simp only [updateRasterCompare, raiseIrq, updateIrqLine, armRasterCompare_inbox, apply_ite State.inbox, ite_self]
@[simp] theorem updateRasterCompare_operands (s : State) : (updateRasterCompare s).operands = s.operands := by
  simp only [updateRasterCompare, raiseIrq, updateIrqLine, armRasterCompare_operands, apply_ite State.operands, ite_self]
@[simp] theorem updateRasterCompare_draws (s : State) : (updateRasterCompare s).draws = s.draws := by
  simp only [updateRasterCompare, raiseIrq, updateIrqLine, armRasterCompare_draws, apply_ite State.draws, ite_self]

/-! resolvePointers -/

@[simp] theorem resolvePointers_cfg (s : State) : (resolvePointers s).cfg = s.cfg := by
  simp only [resolvePointers_eq]
@[simp] theorem resolvePointers_clk (s : State) : (resolvePointers s).clk = s.clk := by
  simp only [resolvePointers_eq]
@[simp] theorem resolvePointers_clkOrigin (s : State) : (resolvePointers s).clkOrigin = s.clkOrigin := by
  simp only [resolvePointers_eq]
@[simp] theorem resolvePointers_currentLine (s : State) : (resolvePointers s).currentLine = s.currentLine := by
  simp only [resolvePointers_eq]
@[simp] theorem resolvePointers_fetchClk (s : State) : (resolvePointers s).fetchClk = s.fetchClk := by
  simp only [resolvePointers_eq]
@[simp] theorem resolvePointers_drawClk (s : State) : (resolvePointers s).drawClk = s.drawClk := by
  simp only [resolvePointers_eq]
@[simp] theorem resolvePointers_rasterIrqClk (s : State) : (resolvePointers s).rasterIrqClk = s.rasterIrqClk := by
  simp only [resolvePointers_eq]
@[simp] theorem resolvePointers_fetchIdx (s : State) : (resolvePointers s).fetchIdx = s.fetchIdx := by
  simp only [resolvePointers_eq]
@[simp] theorem resolvePointers_spriteFetchMsk (s : State) : (resolvePointers s).spriteFetchMsk = s.spriteFetchMsk := by
  simp only [resolvePointers_eq]
@[simp] theorem resolvePointers_spriteFetchIdx (s : State) : (resolvePointers s).spriteFetchIdx = s.spriteFetchIdx := by
  simp only [resolvePointers_eq]
@[simp] theorem resolvePointers_spriteFetchBase (s : State) : (resolvePointers s).spriteFetchBase = s.spriteFetchBase := by
  simp only [resolvePointers_eq]
@[simp] theorem resolvePointers_regs (s : State) : (resolvePointers s).regs = s.regs := by
  simp only [resolvePointers_eq]
@[simp] theorem resolvePointers_videoMode (s : State) : (resolvePointers s).videoMode = s.videoMode := by
  simp only [resolvePointers_eq]
@[simp] theorem resolvePointers_idleState (s : State) : (resolvePointers s).idleState = s.idleState := by
  simp only [resolvePointers_eq]
@[simp] theorem resolvePointers_badLine (s : State) : (resolvePointers s).badLine = s.badLine := by
  simp only [resolvePointers_eq]
@[simp] theorem resolvePointers_allowBadLines (s : State) : (resolvePointers s).allowBadLines = s.allowBadLines := by
  simp only [resolvePointers_eq]
@[simp] theorem resolvePointers_blank (s : State) : (resolvePointers s).blank = s.blank := by
  simp only [resolvePointers_eq]
@[simp] theorem resolvePointers_forceDisplayState (s : State) : (resolvePointers s).forceDisplayState = s.forceDisplayState := by
  simp only [resolvePointers_eq]
@[simp] theorem resolvePointers_ycounter (s : State) : (resolvePointers s).ycounter = s.ycounter := by
  simp only [resolvePointers_eq]
@[simp] theorem resolvePointers_memCounter (s : State) : (resolvePointers s).memCounter = s.memCounter := by
  simp only [resolvePointers_eq]
@[simp] theorem resolvePointers_memptr (s : State) : (resolvePointers s).memptr = s.memptr := by
  simp only [resolvePointers_eq]
@[simp] theorem resolvePointers_memCounterInc (s : State) : (resolvePointers s).memCounterInc = s.memCounterInc := by
  simp only [resolvePointers_eq]
@[simp] theorem resolvePointers_vbuf (s : State) : (resolvePointers s).vbuf = s.vbuf := by
  simp only [resolvePointers_eq]
@[simp] theorem resolvePointers_cbuf (s : State) : (resolvePointers s).cbuf = s.cbuf := by
  simp only [resolvePointers_eq]
@[simp] theorem resolvePointers_backgroundColorSource (s : State) : (resolvePointers s).backgroundColorSource = s.backgroundColorSource := by
  simp only [resolvePointers_eq]
@[simp] theorem resolvePointers_idleData (s : State) : (resolvePointers s).idleData = s.idleData := by
  simp only [resolvePointers_eq]
@[simp] theorem resolvePointers_colorRam (s : State) : (resolvePointers s).colorRam = s.colorRam := by
  simp only [resolvePointers_eq]
@[simp] theorem resolvePointers_vbankPhi1 (s : State) : (resolvePointers s).vbankPhi1 = s.vbankPhi1 := by
  simp only [resolvePointers_eq]
@[simp] theorem resolvePointers_vbankPhi2 (s : State) : (resolvePointers s).vbankPhi2 = s.vbankPhi2 := by
  simp only [resolvePointers_eq]
@[simp] theorem resolvePointers_ramBaseOffset (s : State) : (resolvePointers s).ramBaseOffset = s.ramBaseOffset := by
  simp only [resolvePointers_eq]
@[simp] theorem resolvePointers_irqStatus (s : State) : (resolvePointers s).irqStatus = s.irqStatus := by
  simp only [resolvePointers_eq]
@[simp] theorem resolvePointers_rasterIrqLine (s : State) : (resolvePointers s).rasterIrqLine = s.rasterIrqLine := by
  simp only [resolvePointers_eq]
@[simp] theorem resolvePointers_irqLine (s : State) : (resolvePointers s).irqLine = s.irqLine := by
  simp only [resolvePointers_eq]
@[simp] theorem resolvePointers_spriteSpriteCollisions (s : State) : (resolvePointers s).spriteSpriteCollisions = s.spriteSpriteCollisions := by
  simp only [resolvePointers_eq]
@[simp] theorem resolvePointers_spriteBackgroundCollisions (s : State) : (resolvePointers s).spriteBackgroundCollisions = s.spriteBackgroundCollisions := by
  simp only [resolvePointers_eq]
@[simp] theorem resolvePointers_lastRead (s : State) : (resolvePointers s).lastRead = s.lastRead := by
  simp only [resolvePointers_eq]
@[simp] theorem resolvePointers_lightPen (s : State) : (resolvePointers s).lightPen = s.lightPen := by
  simp only [resolvePointers_eq]
@[simp] theorem resolvePointers_sprites (s : State) : (resolvePointers s).sprites = s.sprites := by
  simp only [resolvePointers_eq]
@[simp] theorem resolvePointers_newSpriteDmaMask (s : State) : (resolvePointers s).newSpriteDmaMask = s.newSpriteDmaMask := by
  simp only [resolvePointers_eq]
@[simp] theorem resolvePointers_spriteDmaMask (s : State) : (resolvePointers s).spriteDmaMask = s.spriteDmaMask := by
  simp only [resolvePointers_eq]
@[simp] theorem resolvePointers_lineStart (s : State) : (resolvePointers s).lineStart = s.lineStart := by
  simp only [resolvePointers_eq]
@[simp] theorem resolvePointers_cache (s : State) : (resolvePointers s).cache = s.cache := by
  simp only [resolvePointers_eq]
@[simp] theorem resolvePointers_dirtyRange (s : State) : (resolvePointers s).dirtyRange = s.dirtyRange := by
  simp only [resolvePointers_eq]
@[simp] theorem resolvePointers_borderTop (s : State) : (resolvePointers s).borderTop = s.borderTop := by
  simp only [resolvePointers_eq]
@[simp] theorem resolvePointers_borderBottom (s : State) : (resolvePointers s).borderBottom = s.borderBottom := by
  simp only [resolvePointers_eq]
@[simp] theorem resolvePointers_verticalBorder (s : State) : (resolvePointers s).verticalBorder = s.verticalBorder := by
  simp only [resolvePointers_eq]
@[simp] theorem resolvePointers_ram (s : State) : (resolvePointers s).ram = s.ram := by
  simp only [resolvePointers_eq]
@[simp] theorem resolvePointers_chargen (s : State) : (resolvePointers s).chargen = s.chargen := by
  simp only [resolvePointers_eq]
@[simp] theorem resolvePointers_romh (s : State) : (resolvePointers s).romh = s.romh := by
  simp only [resolvePointers_eq]
@[simp] theorem resolvePointers_memoryTime (s : State) : (resolvePointers s).memoryTime = s.memoryTime := by
  simp only [resolvePointers_eq]
@[simp] theorem resolvePointers_ultimax (s : State) : (resolvePointers s).ultimax = s.ultimax := by
  simp only [resolvePointers_eq]
@[simp] theorem resolvePointers_readData (s : State) : (resolvePointers s).readData = s.readData := by
  simp only [resolvePointers_eq]
@[simp] theorem resolvePointers_stolenCycles (s : State) : (resolvePointers s).stolenCycles = s.stolenCycles := by
  simp only [resolvePointers_eq]
@[simp] theorem resolvePointers_lines (s : State) : (resolvePointers s).lines = s.lines := by
  simp only [resolvePointers_eq]
@[simp] theorem resolvePointers_log (s : State) : (resolvePointers s).log = s.log := by
  simp only [resolvePointers_eq]
@[simp] theorem resolvePointers_snapshotOut (s : State) : (resolvePointers s).snapshotOut = s.snapshotOut := by
  simp only [resolvePointers_eq]
@[simp] theorem resolvePointers_lineCollisions (s : State) : (resolvePointers s).lineCollisions = s.lineCollisions := by
  simp only [resolvePointers_eq]
@[simp] theorem resolvePointers_inbox (s : State) : (resolvePointers s).inbox = s.inbox := by
  simp only [resolvePointers_eq]
@[simp] theorem resolvePointers_operands (s : State) : (resolvePointers s).operands = s.operands := by
  simp only [resolvePointers_eq]
@[simp] theorem resolvePointers_draws (s : State) : (resolvePointers s).draws = s.draws := by
  simp only [resolvePointers_eq]

/-! Operations that can stop -/

theorem badlineAtFetch_frame {c : Clock} {s t : State} (h : badlineAtFetch c s = .ok t) : t = { s with
    clk := t.clk
    idleState := t.idleState
    badLine := t.badLine
    allowBadLines := t.allowBadLines
    ycounter := t.ycounter
    memCounter := t.memCounter
    memCounterInc := t.memCounterInc
    vbuf := t.vbuf
    cbuf := t.cbuf
    backgroundColorSource := t.backgroundColorSource
    stolenCycles := t.stolenCycles } := by
  unfold badlineAtFetch at h
  simp only at h
  split at h
  · simp only [bind] at h
    obtain ⟨a, ha, hs⟩ := bind_eq_ok.1 h
    obtain ⟨_, rfl⟩ := steal_ok hs
    obtain ⟨_, _, _, rfl⟩ := fetchMatrix_ok ha
    rfl
  · cases h; rfl

theorem fetchSprite_frame {s t : State} (h : fetchSprite s = .ok t) : t = { s with
    clk := t.clk
    fetchClk := t.fetchClk
    fetchIdx := t.fetchIdx
    spriteFetchIdx := t.spriteFetchIdx
    sprites := t.sprites
    stolenCycles := t.stolenCycles } := by
  unfold fetchSprite at h
  split at h
  · cases h
  · obtain ⟨a, ha, rfl⟩ := map_eq_ok.1 h
    obtain ⟨_, rfl⟩ := steal_ok ha
    unfold nextTuple
    split <;> rfl

theorem fetchAlarm_frame {s t : State} (h : fetchAlarm s = .ok t) : t = { s with
    clk := t.clk
    fetchClk := t.fetchClk
    fetchIdx := t.fetchIdx
    spriteFetchMsk := t.spriteFetchMsk
    spriteFetchIdx := t.spriteFetchIdx
    spriteFetchBase := t.spriteFetchBase
    idleState := t.idleState
    badLine := t.badLine
    allowBadLines := t.allowBadLines
    ycounter := t.ycounter
    memCounter := t.memCounter
    memCounterInc := t.memCounterInc
    vbuf := t.vbuf
    cbuf := t.cbuf
    backgroundColorSource := t.backgroundColorSource
    sprites := t.sprites
    newSpriteDmaMask := t.newSpriteDmaMask
    stolenCycles := t.stolenCycles } := by
  unfold fetchAlarm at h
  split at h
  · obtain ⟨a, ha, rfl⟩ := map_eq_ok.1 h
    rw [badlineAtFetch_frame ha]
  · cases h
    unfold fetchAlarmCheck
    simp only
    split <;> rfl
  · rw [fetchSprite_frame h]

theorem badlineEval_frame {old new : Byte} {y c : Nat} {s t : State} (h : badlineEval old new y c s = .ok t) : t = { s with
    clk := t.clk
    idleState := t.idleState
    badLine := t.badLine
    allowBadLines := t.allowBadLines
    forceDisplayState := t.forceDisplayState
    ycounter := t.ycounter
    memCounter := t.memCounter
    memCounterInc := t.memCounterInc
    vbuf := t.vbuf
    cbuf := t.cbuf
    backgroundColorSource := t.backgroundColorSource
    stolenCycles := t.stolenCycles
    draws := t.draws } := by
  unfold badlineEval at h
  simp only at h
  split at h
  · cases h; rfl
  · split at h
    · unfold lineBecomesBad at h
      split at h
      · cases h; rfl
      · split at h
        · unfold becomesBadInWindow at h
          simp only [bind] at h
          obtain ⟨a, ha, h⟩ := bind_eq_ok.1 h
          obtain ⟨_, rfl⟩ := steal_ok ha
          split at h
          · obtain ⟨b, hb, h⟩ := bind_eq_ok.1 h
            obtain ⟨_, _, _, rfl⟩ := fetchMatrix_ok hb
            cases h; rfl
          · cases h; rfl
        · cases h; rfl
    · cases h; rfl

end Sys2Proof.Machine
end

