-- ==== Sys2Proof/Laws/Memory.lean ====
section
/-! SUPPORT. Every memory operation keeps the canonical form (log 10), and the memories after reset have it. -/

namespace Sys2Proof.Machine

theorem wf_cons_iff (a : Nat) (v : Byte) (m : Memory) :
    Memory.wf ((a, v) :: m) = true ↔ (∀ c ∈ m.head?, a < c.1) ∧ Memory.wf m = true := by
  cases m with
  | nil => simp [Memory.wf]
  | cons c rest => obtain ⟨b, w⟩ := c; simp [Memory.wf]

theorem head_store (m : Memory) (a : Nat) (v : Byte) :
    ∀ c ∈ (Memory.store m a v).head?, c.1 = a ∨ ∃ d ∈ m.head?, d.1 = c.1 := by
  cases m with
  | nil => simp [Memory.store]
  | cons c rest =>
    obtain ⟨k, w⟩ := c
    simp only [Memory.store]
    split
    · simp
    · split <;> simp_all

/-- A store keeps the canonical form. -/
theorem store_wf (m : Memory) (a : Nat) (v : Byte) (h : Memory.wf m = true) : Memory.wf (Memory.store m a v) = true := by
  induction m with
  | nil => simp [Memory.store, Memory.wf]
  | cons c rest ih =>
    obtain ⟨k, w⟩ := c
    obtain ⟨hk, hr⟩ := (wf_cons_iff k w rest).1 h
    simp only [Memory.store]
    split
    · exact (wf_cons_iff _ _ _).2 ⟨by simpa, h⟩
    · split
      · next he => subst he; exact (wf_cons_iff _ _ _).2 ⟨hk, hr⟩
      · refine (wf_cons_iff _ _ _).2 ⟨fun c hc => ?_, ih hr⟩
        rcases head_store rest a v c hc with e | ⟨d, hd, e⟩
        · simp only [e]; omega
        · simpa [← e] using hk d hd

/-- The providers' changes keep the canonical form. -/
theorem changeMemory_wf (s : State) (l : List MemoryChange) (hr : Memory.wf s.ram = true)
    (hc : Memory.wf s.chargen = true) (hh : Memory.wf s.romh = true) :
    Memory.wf (s.changeMemory l).ram = true ∧ Memory.wf (s.changeMemory l).chargen = true ∧
      Memory.wf (s.changeMemory l).romh = true := by
  have keeps : ∀ (f : Memory → MemoryChange → Memory), (∀ m c, Memory.wf m = true → Memory.wf (f m c) = true) →
      ∀ (l : List MemoryChange) (m : Memory), Memory.wf m = true → Memory.wf (l.foldl f m) = true := by
    intro f hf l
    induction l with
    | nil => exact fun m h => h
    | cons c rest ih => exact fun m h => ih _ (hf m c h)
  refine ⟨keeps _ (fun m c h => ?_) l _ hr, keeps _ (fun m c h => ?_) l _ hc, keeps _ (fun m c h => ?_) l _ hh⟩ <;>
    cases c <;> first | exact h | exact store_wf _ _ _ h

/-- The entries of a memory after a store. -/
theorem mem_store (m : Memory) (a : Nat) (v : Byte) (c : Host.Cell) (h : c ∈ Memory.store m a v) :
    c = (a, v) ∨ c ∈ m := by
  induction m with
  | nil => simpa [Memory.store] using h
  | cons d rest ih =>
    obtain ⟨k, w⟩ := d
    simp only [Memory.store] at h
    split at h
    · simpa using h
    · split at h
      · rcases List.mem_cons.1 h with e | e <;> simp [e]
      · rcases List.mem_cons.1 h with e | e
        · simp [e]
        · rcases ih e with e | e <;> simp [e]

/-- A memory that lists every address from `k` on in order has the canonical form: colour RAM after a load. -/
theorem wf_range' (f : Nat → Byte) (n k : Nat) : Memory.wf ((List.range' k n).map fun a => (a, f a)) = true := by
  induction n generalizing k with
  | zero => rfl
  | succ n ih =>
    simp only [List.range'_succ, List.map_cons]
    refine (wf_cons_iff _ _ _).2 ⟨?_, ih (k + 1)⟩
    cases n <;> simp [List.range'_succ]

/-- Colour RAM after SNAPSHOT_LOAD has the canonical form. -/
theorem storeBody_colorRam_wf (b : List Byte) (s : State) : Memory.wf (storeBody b s).colorRam = true := by
  simpa [storeBody, List.range_eq_range'] using wf_range' (fun a => byteAt b (43 + a)) 1024 0

theorem reset_memories_wf : Memory.wf State.reset.ram = true ∧ Memory.wf State.reset.colorRam = true ∧
    Memory.wf State.reset.chargen = true ∧ Memory.wf State.reset.romh = true := by decide

end Sys2Proof.Machine
end

