-- ==== Sys2Proof/Laws/PerInstr.lean ====
section
/-! SUPPORT. Statements made once per constructor of `Instr`. The family `Fields`: the fields written for an
operation are those of an accepted word (30_encoding.md R60, R67). -/

namespace Sys2Proof.Laws.Fields

/-- The fields of the operation's word pass the checks of 30_encoding.md R67. -/
def Statement (i : Instr) : Prop := i.fields.wellFormed = true

theorem read00 : Statement .read00 := rfl

theorem read01 : Statement .read01 := rfl

theorem read02 : Statement .read02 := rfl

theorem read03 : Statement .read03 := rfl

theorem read04 : Statement .read04 := rfl

theorem read05 : Statement .read05 := rfl

theorem read06 : Statement .read06 := rfl

theorem read07 : Statement .read07 := rfl

theorem read08 : Statement .read08 := rfl

theorem read09 : Statement .read09 := rfl

theorem read0A : Statement .read0A := rfl

theorem read0B : Statement .read0B := rfl

theorem read0C : Statement .read0C := rfl

theorem read0D : Statement .read0D := rfl

theorem read0E : Statement .read0E := rfl

theorem read0F : Statement .read0F := rfl

theorem read10 : Statement .read10 := rfl

theorem read11 : Statement .read11 := rfl

theorem read12 : Statement .read12 := rfl

theorem read13 : Statement .read13 := rfl

theorem read14 : Statement .read14 := rfl

theorem read15 : Statement .read15 := rfl

theorem read16 : Statement .read16 := rfl

theorem read17 : Statement .read17 := rfl

theorem read18 : Statement .read18 := rfl

theorem read19 : Statement .read19 := rfl

theorem read1A : Statement .read1A := rfl

theorem read1B : Statement .read1B := rfl

theorem read1C : Statement .read1C := rfl

theorem read1D : Statement .read1D := rfl

theorem read1E : Statement .read1E := rfl

theorem read1F : Statement .read1F := rfl

theorem read20 : Statement .read20 := rfl

theorem read21 : Statement .read21 := rfl

theorem read22 : Statement .read22 := rfl

theorem read23 : Statement .read23 := rfl

theorem read24 : Statement .read24 := rfl

theorem read25 : Statement .read25 := rfl

theorem read26 : Statement .read26 := rfl

theorem read27 : Statement .read27 := rfl

theorem read28 : Statement .read28 := rfl

theorem read29 : Statement .read29 := rfl

theorem read2A : Statement .read2A := rfl

theorem read2B : Statement .read2B := rfl

theorem read2C : Statement .read2C := rfl

theorem read2D : Statement .read2D := rfl

theorem read2E : Statement .read2E := rfl

theorem read2F : Statement .read2F := rfl

theorem read30 : Statement .read30 := rfl

theorem read31 : Statement .read31 := rfl

theorem read32 : Statement .read32 := rfl

theorem read33 : Statement .read33 := rfl

theorem read34 : Statement .read34 := rfl

theorem read35 : Statement .read35 := rfl

theorem read36 : Statement .read36 := rfl

theorem read37 : Statement .read37 := rfl

theorem read38 : Statement .read38 := rfl

theorem read39 : Statement .read39 := rfl

theorem read3A : Statement .read3A := rfl

theorem read3B : Statement .read3B := rfl

theorem read3C : Statement .read3C := rfl

theorem read3D : Statement .read3D := rfl

theorem read3E : Statement .read3E := rfl

theorem read3F : Statement .read3F := rfl

theorem write00 (wc : BitVec 2) (v : Byte) : Statement (.write00 wc v) := rfl

theorem write01 (wc : BitVec 2) (v : Byte) : Statement (.write01 wc v) := rfl

theorem write02 (wc : BitVec 2) (v : Byte) : Statement (.write02 wc v) := rfl

theorem write03 (wc : BitVec 2) (v : Byte) : Statement (.write03 wc v) := rfl

theorem write04 (wc : BitVec 2) (v : Byte) : Statement (.write04 wc v) := rfl

theorem write05 (wc : BitVec 2) (v : Byte) : Statement (.write05 wc v) := rfl

theorem write06 (wc : BitVec 2) (v : Byte) : Statement (.write06 wc v) := rfl

theorem write07 (wc : BitVec 2) (v : Byte) : Statement (.write07 wc v) := rfl

theorem write08 (wc : BitVec 2) (v : Byte) : Statement (.write08 wc v) := rfl

theorem write09 (wc : BitVec 2) (v : Byte) : Statement (.write09 wc v) := rfl

theorem write0A (wc : BitVec 2) (v : Byte) : Statement (.write0A wc v) := rfl

theorem write0B (wc : BitVec 2) (v : Byte) : Statement (.write0B wc v) := rfl

theorem write0C (wc : BitVec 2) (v : Byte) : Statement (.write0C wc v) := rfl

theorem write0D (wc : BitVec 2) (v : Byte) : Statement (.write0D wc v) := rfl

theorem write0E (wc : BitVec 2) (v : Byte) : Statement (.write0E wc v) := rfl

theorem write0F (wc : BitVec 2) (v : Byte) : Statement (.write0F wc v) := rfl

theorem write10 (wc : BitVec 2) (v : Byte) : Statement (.write10 wc v) := rfl

theorem write11 (wc : BitVec 2) (v : Byte) : Statement (.write11 wc v) := rfl

theorem write12 (wc : BitVec 2) (v : Byte) : Statement (.write12 wc v) := rfl

theorem write13 (wc : BitVec 2) (v : Byte) : Statement (.write13 wc v) := rfl

theorem write14 (wc : BitVec 2) (v : Byte) : Statement (.write14 wc v) := rfl

theorem write15 (wc : BitVec 2) (v : Byte) : Statement (.write15 wc v) := rfl

theorem write16 (wc : BitVec 2) (v : Byte) : Statement (.write16 wc v) := rfl

theorem write17 (wc : BitVec 2) (v : Byte) : Statement (.write17 wc v) := rfl

theorem write18 (wc : BitVec 2) (v : Byte) : Statement (.write18 wc v) := rfl

theorem write19 (wc : BitVec 2) (v : Byte) : Statement (.write19 wc v) := rfl

theorem write1A (wc : BitVec 2) (v : Byte) : Statement (.write1A wc v) := rfl

theorem write1B (wc : BitVec 2) (v : Byte) : Statement (.write1B wc v) := rfl

theorem write1C (wc : BitVec 2) (v : Byte) : Statement (.write1C wc v) := rfl

theorem write1D (wc : BitVec 2) (v : Byte) : Statement (.write1D wc v) := rfl

theorem write1E (wc : BitVec 2) (v : Byte) : Statement (.write1E wc v) := rfl

theorem write1F (wc : BitVec 2) (v : Byte) : Statement (.write1F wc v) := rfl

theorem write20 (wc : BitVec 2) (v : Byte) : Statement (.write20 wc v) := rfl

theorem write21 (wc : BitVec 2) (v : Byte) : Statement (.write21 wc v) := rfl

theorem write22 (wc : BitVec 2) (v : Byte) : Statement (.write22 wc v) := rfl

theorem write23 (wc : BitVec 2) (v : Byte) : Statement (.write23 wc v) := rfl

theorem write24 (wc : BitVec 2) (v : Byte) : Statement (.write24 wc v) := rfl

theorem write25 (wc : BitVec 2) (v : Byte) : Statement (.write25 wc v) := rfl

theorem write26 (wc : BitVec 2) (v : Byte) : Statement (.write26 wc v) := rfl

theorem write27 (wc : BitVec 2) (v : Byte) : Statement (.write27 wc v) := rfl

theorem write28 (wc : BitVec 2) (v : Byte) : Statement (.write28 wc v) := rfl

theorem write29 (wc : BitVec 2) (v : Byte) : Statement (.write29 wc v) := rfl

theorem write2A (wc : BitVec 2) (v : Byte) : Statement (.write2A wc v) := rfl

theorem write2B (wc : BitVec 2) (v : Byte) : Statement (.write2B wc v) := rfl

theorem write2C (wc : BitVec 2) (v : Byte) : Statement (.write2C wc v) := rfl

theorem write2D (wc : BitVec 2) (v : Byte) : Statement (.write2D wc v) := rfl

theorem write2E (wc : BitVec 2) (v : Byte) : Statement (.write2E wc v) := rfl

theorem write2F (wc : BitVec 2) (v : Byte) : Statement (.write2F wc v) := rfl

theorem write30 (wc : BitVec 2) (v : Byte) : Statement (.write30 wc v) := rfl

theorem write31 (wc : BitVec 2) (v : Byte) : Statement (.write31 wc v) := rfl

theorem write32 (wc : BitVec 2) (v : Byte) : Statement (.write32 wc v) := rfl

theorem write33 (wc : BitVec 2) (v : Byte) : Statement (.write33 wc v) := rfl

theorem write34 (wc : BitVec 2) (v : Byte) : Statement (.write34 wc v) := rfl

theorem write35 (wc : BitVec 2) (v : Byte) : Statement (.write35 wc v) := rfl

theorem write36 (wc : BitVec 2) (v : Byte) : Statement (.write36 wc v) := rfl

theorem write37 (wc : BitVec 2) (v : Byte) : Statement (.write37 wc v) := rfl

theorem write38 (wc : BitVec 2) (v : Byte) : Statement (.write38 wc v) := rfl

theorem write39 (wc : BitVec 2) (v : Byte) : Statement (.write39 wc v) := rfl

theorem write3A (wc : BitVec 2) (v : Byte) : Statement (.write3A wc v) := rfl

theorem write3B (wc : BitVec 2) (v : Byte) : Statement (.write3B wc v) := rfl

theorem write3C (wc : BitVec 2) (v : Byte) : Statement (.write3C wc v) := rfl

theorem write3D (wc : BitVec 2) (v : Byte) : Statement (.write3D wc v) := rfl

theorem write3E (wc : BitVec 2) (v : Byte) : Statement (.write3E wc v) := rfl

theorem write3F (wc : BitVec 2) (v : Byte) : Statement (.write3F wc v) := rfl

theorem peek00 : Statement .peek00 := rfl

theorem peek01 : Statement .peek01 := rfl

theorem peek02 : Statement .peek02 := rfl

theorem peek03 : Statement .peek03 := rfl

theorem peek04 : Statement .peek04 := rfl

theorem peek05 : Statement .peek05 := rfl

theorem peek06 : Statement .peek06 := rfl

theorem peek07 : Statement .peek07 := rfl

theorem peek08 : Statement .peek08 := rfl

theorem peek09 : Statement .peek09 := rfl

theorem peek0A : Statement .peek0A := rfl

theorem peek0B : Statement .peek0B := rfl

theorem peek0C : Statement .peek0C := rfl

theorem peek0D : Statement .peek0D := rfl

theorem peek0E : Statement .peek0E := rfl

theorem peek0F : Statement .peek0F := rfl

theorem peek10 : Statement .peek10 := rfl

theorem peek11 : Statement .peek11 := rfl

theorem peek12 : Statement .peek12 := rfl

theorem peek13 : Statement .peek13 := rfl

theorem peek14 : Statement .peek14 := rfl

theorem peek15 : Statement .peek15 := rfl

theorem peek16 : Statement .peek16 := rfl

theorem peek17 : Statement .peek17 := rfl

theorem peek18 : Statement .peek18 := rfl

theorem peek19 : Statement .peek19 := rfl

theorem peek1A : Statement .peek1A := rfl

theorem peek1B : Statement .peek1B := rfl

theorem peek1C : Statement .peek1C := rfl

theorem peek1D : Statement .peek1D := rfl

theorem peek1E : Statement .peek1E := rfl

theorem peek1F : Statement .peek1F := rfl

theorem peek20 : Statement .peek20 := rfl

theorem peek21 : Statement .peek21 := rfl

theorem peek22 : Statement .peek22 := rfl

theorem peek23 : Statement .peek23 := rfl

theorem peek24 : Statement .peek24 := rfl

theorem peek25 : Statement .peek25 := rfl

theorem peek26 : Statement .peek26 := rfl

theorem peek27 : Statement .peek27 := rfl

theorem peek28 : Statement .peek28 := rfl

theorem peek29 : Statement .peek29 := rfl

theorem peek2A : Statement .peek2A := rfl

theorem peek2B : Statement .peek2B := rfl

theorem peek2C : Statement .peek2C := rfl

theorem peek2D : Statement .peek2D := rfl

theorem peek2E : Statement .peek2E := rfl

theorem peek2F : Statement .peek2F := rfl

theorem peek30 : Statement .peek30 := rfl

theorem peek31 : Statement .peek31 := rfl

theorem peek32 : Statement .peek32 := rfl

theorem peek33 : Statement .peek33 := rfl

theorem peek34 : Statement .peek34 := rfl

theorem peek35 : Statement .peek35 := rfl

theorem peek36 : Statement .peek36 := rfl

theorem peek37 : Statement .peek37 := rfl

theorem peek38 : Statement .peek38 := rfl

theorem peek39 : Statement .peek39 := rfl

theorem peek3A : Statement .peek3A := rfl

theorem peek3B : Statement .peek3B := rfl

theorem peek3C : Statement .peek3C := rfl

theorem peek3D : Statement .peek3D := rfl

theorem peek3E : Statement .peek3E := rfl

theorem peek3F : Statement .peek3F := rfl

theorem eventAdvance : Statement .eventAdvance := rfl

theorem eventHandlePendingAlarms : Statement .eventHandlePendingAlarms := rfl

theorem eventFetchAlarm : Statement .eventFetchAlarm := rfl

theorem eventDrawAlarm : Statement .eventDrawAlarm := rfl

theorem eventRasterIrqAlarm : Statement .eventRasterIrqAlarm := rfl

theorem eventClockOverflow : Statement .eventClockOverflow := rfl

theorem eventBadlineEval : Statement .eventBadlineEval := rfl

theorem eventFetchMatrix : Statement .eventFetchMatrix := rfl

theorem eventCheckSpriteDma : Statement .eventCheckSpriteDma := rfl

theorem eventFetchSprite : Statement .eventFetchSprite := rfl

theorem eventDrawLine : Statement .eventDrawLine := rfl

theorem eventReset : Statement .eventReset := rfl

theorem eventSnapshotWrite : Statement .eventSnapshotWrite := rfl

theorem eventSnapshotLoad : Statement .eventSnapshotLoad := rfl

theorem eventSetVbank : Statement .eventSetVbank := rfl

theorem eventSetRamBase : Statement .eventSetRamBase := rfl

theorem eventLightpenTrigger : Statement .eventLightpenTrigger := rfl

theorem eventVideoRamStore : Statement .eventVideoRamStore := rfl

end Sys2Proof.Laws.Fields
end

