-- ==== Sys2Proof/Tests/Slice0.lean ====
section
/-! SUPPORT. The author's own tests: what the checks refuse, what each word decodes to, what one operation does on a
small state (expected values from 95_test_vectors.md, named V<n>, or worked out from the rule named), and for each
statement of Certificates/Slice0/Obligations.lean that has hypotheses a concrete state that meets them. -/

namespace Sys2Proof.Tests

open Sys2Proof.Machine

set_option Elab.async false

/-! Well-formedness: each check refuses an ill-formed term. -/

/-- R67: a READ word with a value, a PEEK word with `wc`, the first and the last reserved EVENT. -/
theorem test_refuses_ill_formed_words :
    [(⟨0, 0, 0x19, 1⟩ : WordFields), ⟨0, 1, 0, 0⟩, ⟨2, 1, 0, 0⟩, ⟨2, 0, 0x3F, 0x80⟩, ⟨3, 0, 0, 1⟩, ⟨3, 3, 0, 0⟩,
      ⟨3, 0, 0x12, 0⟩, ⟨3, 0, 0x3F, 0⟩].all (fun f => !f.wellFormed) = true := by decide

/-- R67: "a WRITE word is always accepted"; the last EVENT number is 0x11. -/
theorem test_accepts_well_formed_words :
    [(⟨1, 3, 0x3F, 0xFF⟩ : WordFields), ⟨1, 0, 0, 0⟩, ⟨0, 0, 0x3F, 0⟩, ⟨3, 0, 0x11, 0⟩].all
      (fun f => f.wellFormed) = true := by decide

/-- R47: a bank has no bit outside 15:14. -/
theorem test_bank_check : ([0x0000#16, 0x4000, 0x8000, 0xC000].all bankWellFormed &&
    [0x0001#16, 0x2000, 0x4001, 0xC400].all (fun b => !bankWellFormed b)) = true := by decide

/-- R146: the order of the alarm cycles. -/
theorem test_refuses_cycle_order :
    [{ Config.palDefaults with drawCycle := 12 }, { Config.palDefaults with fetchCycle := 53 },
      { Config.palDefaults with checkSpriteDmaCycle := 55 }, { Config.palDefaults with spriteFetchCycle := 63 }].all
      (fun c => !cyclesWellFormed c) = true := by decide

/-- R202: `DISPLAY_X0 + 320 > 8 * CPL` is refused; 184 is the last value PAL admits. -/
theorem test_refuses_display_x0 : ({ Config.palDefaults with displayX0 := 185 }).wellFormed = false := by decide +kernel

/-- R6: the sizes of the three tables. -/
theorem test_refuses_table_sizes :
    (({ Config.palDefaults with always1 := [] }).wellFormed || ({ Config.palDefaults with crunchTable := [1] }).wellFormed ||
      ({ Config.palDefaults with spriteFetchTable := [[]] }).wellFormed) = false := by decide +kernel

/-- A map in which CR2 and YXPAND have changed places. -/
def swappedMap : List RegAddr := (Config.defaultRegmap.set 0x16 0x17).set 0x17 0x16

/-- R64: a map that is too short, one that has a register twice and another not at all, one that moves the control register;
two unfixed registers may change places. -/
theorem test_refuses_register_maps :
    ([Config.defaultRegmap.dropLast, Config.defaultRegmap.set 0x16 0x17,
      (Config.defaultRegmap.set 0x11 0x12).set 0x12 0x11].all fun m => !regmapWellFormed { Config.palDefaults with regmap := m }) =
      true ∧ ({ Config.palDefaults with regmap := swappedMap }).wellFormed = true := by decide +kernel

/-- The places of a register whose bits 0 and 7 have changed places. -/
def swappedPlaces : List Nat := [7, 1, 2, 3, 4, 5, 6, 0]

/-- R65: a bit missing from a register, a bit that the document fixes moved, an enable moved away from its source; bits 0 and 7
of CR2 may change places. -/
theorem test_refuses_bit_places :
    ([Config.defaultBitmap.set 0x16 [0, 1, 2, 3, 4, 5, 6, 6], Config.defaultBitmap.set 0x11 swappedPlaces,
      Config.defaultBitmap.set 0x1A swappedPlaces, Config.defaultBitmap.dropLast].all fun m =>
        !bitmapWellFormed { Config.palDefaults with bitmap := m }) = true ∧
      ({ Config.palDefaults with bitmap := Config.defaultBitmap.set 0x16 swappedPlaces }).wellFormed = true := by
  decide +kernel

/-- R183: a negative offset is one of a well-formed list. -/
theorem test_accepts_negative_offset :
    fetchListWellFormed Config.palDefaults 0x09 [⟨-4, 4, 0, 0⟩, ⟨0, 5, 3, 3⟩] = true := by decide

/-- R183, one list per condition: a tuple for mask 0; a sprite covered by none, by two; `first` not in the mask; `num` of 0;
tuples out of order; tuples that overlap; a last tuple that ends after the next fetch. -/
theorem test_refuses_fetch_lists :
    ([(0x00, [⟨0, 5, 0, 0⟩]), (0x01, []), (0x01, [⟨0, 5, 0, 0⟩, ⟨6, 5, 0, 0⟩]), (0x02, [⟨0, 5, 0, 1⟩]), (0x01, [⟨0, 0, 0, 0⟩]),
      (0x09, [⟨6, 5, 3, 3⟩, ⟨0, 5, 0, 0⟩]), (0x09, [⟨0, 7, 0, 0⟩, ⟨6, 5, 3, 3⟩]), (0x80, [⟨16, 5, 7, 7⟩])] :
      List (Nat × List FetchTuple)).all (fun p => !fetchListWellFormed Config.palDefaults p.1 p.2) = true := by decide

/-! Decoding: every row, its word written out from the columns `op`, `wc`, `addr`, `value` of the table (R60). -/

/-- A word decodes to an operation. -/
def decodesTo (p : BusWord × Instr) : Bool := (decode p.1).toOption == some p.2

theorem test_decode_read_0 : ([
    (0x00000#18, .read00), (0x00100#18, .read01), (0x00200#18, .read02), (0x00300#18, .read03),
    (0x00400#18, .read04), (0x00500#18, .read05), (0x00600#18, .read06), (0x00700#18, .read07),
    (0x00800#18, .read08), (0x00900#18, .read09), (0x00a00#18, .read0A), (0x00b00#18, .read0B),
    (0x00c00#18, .read0C), (0x00d00#18, .read0D), (0x00e00#18, .read0E), (0x00f00#18, .read0F)] : List (BusWord × Instr)).all decodesTo = true := by decide

theorem test_decode_read_1 : ([
    (0x01000#18, .read10), (0x01100#18, .read11), (0x01200#18, .read12), (0x01300#18, .read13),
    (0x01400#18, .read14), (0x01500#18, .read15), (0x01600#18, .read16), (0x01700#18, .read17),
    (0x01800#18, .read18), (0x01900#18, .read19), (0x01a00#18, .read1A), (0x01b00#18, .read1B),
    (0x01c00#18, .read1C), (0x01d00#18, .read1D), (0x01e00#18, .read1E), (0x01f00#18, .read1F)] : List (BusWord × Instr)).all decodesTo = true := by decide

theorem test_decode_read_2 : ([
    (0x02000#18, .read20), (0x02100#18, .read21), (0x02200#18, .read22), (0x02300#18, .read23),
    (0x02400#18, .read24), (0x02500#18, .read25), (0x02600#18, .read26), (0x02700#18, .read27),
    (0x02800#18, .read28), (0x02900#18, .read29), (0x02a00#18, .read2A), (0x02b00#18, .read2B),
    (0x02c00#18, .read2C), (0x02d00#18, .read2D), (0x02e00#18, .read2E), (0x02f00#18, .read2F)] : List (BusWord × Instr)).all decodesTo = true := by decide

theorem test_decode_read_3 : ([
    (0x03000#18, .read30), (0x03100#18, .read31), (0x03200#18, .read32), (0x03300#18, .read33),
    (0x03400#18, .read34), (0x03500#18, .read35), (0x03600#18, .read36), (0x03700#18, .read37),
    (0x03800#18, .read38), (0x03900#18, .read39), (0x03a00#18, .read3A), (0x03b00#18, .read3B),
    (0x03c00#18, .read3C), (0x03d00#18, .read3D), (0x03e00#18, .read3E), (0x03f00#18, .read3F)] : List (BusWord × Instr)).all decodesTo = true := by decide

theorem test_decode_write_0 : ([
    (0x180a5#18, .write00 2 0xA5), (0x181a5#18, .write01 2 0xA5), (0x182a5#18, .write02 2 0xA5), (0x183a5#18, .write03 2 0xA5),
    (0x184a5#18, .write04 2 0xA5), (0x185a5#18, .write05 2 0xA5), (0x186a5#18, .write06 2 0xA5), (0x187a5#18, .write07 2 0xA5),
    (0x188a5#18, .write08 2 0xA5), (0x189a5#18, .write09 2 0xA5), (0x18aa5#18, .write0A 2 0xA5), (0x18ba5#18, .write0B 2 0xA5),
    (0x18ca5#18, .write0C 2 0xA5), (0x18da5#18, .write0D 2 0xA5), (0x18ea5#18, .write0E 2 0xA5), (0x18fa5#18, .write0F 2 0xA5)] : List (BusWord × Instr)).all decodesTo = true := by decide

theorem test_decode_write_1 : ([
    (0x190a5#18, .write10 2 0xA5), (0x191a5#18, .write11 2 0xA5), (0x192a5#18, .write12 2 0xA5), (0x193a5#18, .write13 2 0xA5),
    (0x194a5#18, .write14 2 0xA5), (0x195a5#18, .write15 2 0xA5), (0x196a5#18, .write16 2 0xA5), (0x197a5#18, .write17 2 0xA5),
    (0x198a5#18, .write18 2 0xA5), (0x199a5#18, .write19 2 0xA5), (0x19aa5#18, .write1A 2 0xA5), (0x19ba5#18, .write1B 2 0xA5),
    (0x19ca5#18, .write1C 2 0xA5), (0x19da5#18, .write1D 2 0xA5), (0x19ea5#18, .write1E 2 0xA5), (0x19fa5#18, .write1F 2 0xA5)] : List (BusWord × Instr)).all decodesTo = true := by decide

theorem test_decode_write_2 : ([
    (0x1a0a5#18, .write20 2 0xA5), (0x1a1a5#18, .write21 2 0xA5), (0x1a2a5#18, .write22 2 0xA5), (0x1a3a5#18, .write23 2 0xA5),
    (0x1a4a5#18, .write24 2 0xA5), (0x1a5a5#18, .write25 2 0xA5), (0x1a6a5#18, .write26 2 0xA5), (0x1a7a5#18, .write27 2 0xA5),
    (0x1a8a5#18, .write28 2 0xA5), (0x1a9a5#18, .write29 2 0xA5), (0x1aaa5#18, .write2A 2 0xA5), (0x1aba5#18, .write2B 2 0xA5),
    (0x1aca5#18, .write2C 2 0xA5), (0x1ada5#18, .write2D 2 0xA5), (0x1aea5#18, .write2E 2 0xA5), (0x1afa5#18, .write2F 2 0xA5)] : List (BusWord × Instr)).all decodesTo = true := by decide

theorem test_decode_write_3 : ([
    (0x1b0a5#18, .write30 2 0xA5), (0x1b1a5#18, .write31 2 0xA5), (0x1b2a5#18, .write32 2 0xA5), (0x1b3a5#18, .write33 2 0xA5),
    (0x1b4a5#18, .write34 2 0xA5), (0x1b5a5#18, .write35 2 0xA5), (0x1b6a5#18, .write36 2 0xA5), (0x1b7a5#18, .write37 2 0xA5),
    (0x1b8a5#18, .write38 2 0xA5), (0x1b9a5#18, .write39 2 0xA5), (0x1baa5#18, .write3A 2 0xA5), (0x1bba5#18, .write3B 2 0xA5),
    (0x1bca5#18, .write3C 2 0xA5), (0x1bda5#18, .write3D 2 0xA5), (0x1bea5#18, .write3E 2 0xA5), (0x1bfa5#18, .write3F 2 0xA5)] : List (BusWord × Instr)).all decodesTo = true := by decide

theorem test_decode_peek_0 : ([
    (0x20000#18, .peek00), (0x20100#18, .peek01), (0x20200#18, .peek02), (0x20300#18, .peek03),
    (0x20400#18, .peek04), (0x20500#18, .peek05), (0x20600#18, .peek06), (0x20700#18, .peek07),
    (0x20800#18, .peek08), (0x20900#18, .peek09), (0x20a00#18, .peek0A), (0x20b00#18, .peek0B),
    (0x20c00#18, .peek0C), (0x20d00#18, .peek0D), (0x20e00#18, .peek0E), (0x20f00#18, .peek0F)] : List (BusWord × Instr)).all decodesTo = true := by decide

theorem test_decode_peek_1 : ([
    (0x21000#18, .peek10), (0x21100#18, .peek11), (0x21200#18, .peek12), (0x21300#18, .peek13),
    (0x21400#18, .peek14), (0x21500#18, .peek15), (0x21600#18, .peek16), (0x21700#18, .peek17),
    (0x21800#18, .peek18), (0x21900#18, .peek19), (0x21a00#18, .peek1A), (0x21b00#18, .peek1B),
    (0x21c00#18, .peek1C), (0x21d00#18, .peek1D), (0x21e00#18, .peek1E), (0x21f00#18, .peek1F)] : List (BusWord × Instr)).all decodesTo = true := by decide

theorem test_decode_peek_2 : ([
    (0x22000#18, .peek20), (0x22100#18, .peek21), (0x22200#18, .peek22), (0x22300#18, .peek23),
    (0x22400#18, .peek24), (0x22500#18, .peek25), (0x22600#18, .peek26), (0x22700#18, .peek27),
    (0x22800#18, .peek28), (0x22900#18, .peek29), (0x22a00#18, .peek2A), (0x22b00#18, .peek2B),
    (0x22c00#18, .peek2C), (0x22d00#18, .peek2D), (0x22e00#18, .peek2E), (0x22f00#18, .peek2F)] : List (BusWord × Instr)).all decodesTo = true := by decide

theorem test_decode_peek_3 : ([
    (0x23000#18, .peek30), (0x23100#18, .peek31), (0x23200#18, .peek32), (0x23300#18, .peek33),
    (0x23400#18, .peek34), (0x23500#18, .peek35), (0x23600#18, .peek36), (0x23700#18, .peek37),
    (0x23800#18, .peek38), (0x23900#18, .peek39), (0x23a00#18, .peek3A), (0x23b00#18, .peek3B),
    (0x23c00#18, .peek3C), (0x23d00#18, .peek3D), (0x23e00#18, .peek3E), (0x23f00#18, .peek3F)] : List (BusWord × Instr)).all decodesTo = true := by decide

theorem test_decode_event_0 : ([
    (0x30000#18, .eventAdvance), (0x30100#18, .eventHandlePendingAlarms), (0x30200#18, .eventFetchAlarm), (0x30300#18, .eventDrawAlarm),
    (0x30400#18, .eventRasterIrqAlarm), (0x30500#18, .eventClockOverflow), (0x30600#18, .eventBadlineEval), (0x30700#18, .eventFetchMatrix),
    (0x30800#18, .eventCheckSpriteDma), (0x30900#18, .eventFetchSprite), (0x30a00#18, .eventDrawLine), (0x30b00#18, .eventReset),
    (0x30c00#18, .eventSnapshotWrite), (0x30d00#18, .eventSnapshotLoad), (0x30e00#18, .eventSetVbank), (0x30f00#18, .eventSetRamBase)] : List (BusWord × Instr)).all decodesTo = true := by decide

theorem test_decode_event_1 : ([
    (0x31000#18, .eventLightpenTrigger), (0x31100#18, .eventVideoRamStore)] : List (BusWord × Instr)).all decodesTo = true := by decide

/-- V52: three words that are refused. -/
theorem test_decode_refuses : [0x31200#18, 0x01901#18, 0x24000#18].all (fun w => (decode w).toOption == none) = true := by
  decide

/-- The host's numbering of the word's bits (R60). -/
theorem test_decode_table_word : decodeTableWord 24 0x199E2 = some (.write19 2 0xE2) ∧ decodeTableWord 24 0x40000 = none := by
  decide

/-! Parameters. -/

/-- V36: default sprite fetch lists. -/
theorem test_fetch_table : ([(0x00, []), (0x01, [⟨0, 5, 0, 0⟩]), (0x03, [⟨0, 7, 0, 1⟩]), (0x05, [⟨0, 9, 0, 2⟩]),
    (0x09, [⟨0, 5, 0, 0⟩, ⟨6, 5, 3, 3⟩]), (0x11, [⟨0, 5, 0, 0⟩, ⟨8, 5, 4, 4⟩]), (0x80, [⟨14, 5, 7, 7⟩]),
    (0xFF, [⟨0, 19, 0, 7⟩])] : List (Byte × List FetchTuple)).all
      (fun p => Config.palDefaults.fetchList p.1 == p.2) = true := by decide +kernel

/-- R186: rows `b = 0..7`, `8..15`, `24..31`, `56..63` of the table. -/
theorem test_crunch_table :
    ((Config.defaultCrunchTable.take 16 == [1, 4, 3, 4, 1, 0, 63, 0, 1, 4, 3, 4, 1, 8, 7, 8]) &&
      ((Config.defaultCrunchTable.drop 24).take 8 == [1, 4, 3, 4, 1, 56, 55, 56]) &&
      (Config.defaultCrunchTable.drop 56 == [1, 4, 3, 4, 1, 24, 23, 24])) = true := by decide +kernel

/-- R66: the masks of the default table. -/
theorem test_always1 : ([(0x00, 0x00), (0x15, 0x00), (0x16, 0xC0), (0x17, 0x00), (0x18, 0x01), (0x19, 0x70), (0x1A, 0xF0),
    (0x1B, 0x00), (0x1F, 0x00), (0x20, 0xF0), (0x2E, 0xF0), (0x2F, 0xFF), (0x3F, 0xFF)] : List (RegAddr × Byte)).all
      (fun p => Config.palDefaults.always1At p.1 == p.2) = true := by decide

/-! Small states. -/

/-- CLOCK_MAX in the default configuration. -/
def clockMax : Clock := 0xFFFFFFFF

/-- The reset state at a cycle of a line of the first frame, the alarms armed as the timeline of R157 has them there. -/
def at_ (line cycle : Nat) : State :=
  { State.reset with
    clk := BitVec.ofNat 32 (63 * line + cycle)
    currentLine := BitVec.ofNat 16 line
    drawClk := BitVec.ofNat 32 (63 * (line + 1))
    fetchIdx := if cycle < 11 then .fetchMatrix else if cycle < 53 then .checkSpriteDma else .fetchMatrix
    fetchClk := BitVec.ofNat 32 (63 * line + if cycle < 11 then 11 else if cycle < 53 then 53 else 74) }

/-- The state with CR1 holding `v`, the display open. -/
def withCr1 (v : Byte) (s : State) : State :=
  { s.setReg 0x11 v with
    blank := !v.getLsbD 4
    videoMode := modeOfRegs v (s.reg 0x16)
    borderTop := (s.cfg.rows (v.getLsbD 3)).1
    borderBottom := (s.cfg.rows (v.getLsbD 3)).2
    lineStart := { s.lineStart with videoMode := modeOfRegs v (s.reg 0x16) } }

/-- What `f` reads of the state after an operation that gives one. -/
def after {α : Type} (i : Instr) (s : State) (f : State → α) : Option α :=
  match exec i s with
  | .next t => some (f t)
  | _ => none

/-- What `f` reads after two operations. -/
def after2 {α : Type} (i j : Instr) (s : State) (f : State → α) : Option α :=
  match exec i s with
  | .next t => after j t f
  | _ => none

/-- The fault an operation ends in. -/
def faultOf (i : Instr) (s : State) : Option Fault :=
  match exec i s with
  | .fault e => some e
  | _ => none

/-! READ, WRITE and PEEK. -/

/-- V1, V2, V3: a stored byte is read back with its mask. -/
theorem test_read_back :
    (after2 (.write05 0 0x7F) .read05 State.reset (·.readData), after2 (.write20 0 0x05) .read20 State.reset (·.readData),
      after2 (.write1A 0 0x01) .read1A State.reset (·.readData), after2 (.write16 0 0x08) .read16 State.reset (·.readData),
      after2 (.write18 0 0x14) .read18 State.reset (·.readData), after2 (.write3F 0 0x00) .read3F State.reset (·.readData)) =
    (some 0x7F, some 0xF5, some 0xF1, some 0xC8, some 0x15, some 0xFF) := by decide +kernel

/-- V6: READ 11 and READ 12 give the line. -/
theorem test_read_line : (after .read11 ((at_ 0x105 0).setReg 0x11 0x1B) (·.readData), after .read12 (at_ 0x105 0) (·.readData)) =
    (some 0x9B, some 0x05) := by decide +kernel

/-- V5, V4: READ 1E clears, PEEK 1E does not, WRITE 1E does nothing. -/
theorem test_collision_read :
    let s := { State.reset with spriteSpriteCollisions := 0x06, spriteBackgroundCollisions := 0x81 }
    (after .read1E s (fun t => (t.readData, t.lastRead)), after2 .read1E .read1E s (·.readData),
      after2 .peek1E .read1E s (·.readData), after2 (.write1E 0 0) .read1E s (·.readData),
      after2 (.write1F 0 0xFF) .read1F s (·.readData)) =
    (some (0x06, 0x06), some 0, some 0x06, some 0x06, some 0x81) := by decide +kernel

/-- V15: READ 19, then WRITE 19 clears what was read; after READ 20 it clears nothing. -/
theorem test_acknowledge :
    let s := updateIrqLine { State.reset.setReg 0x1A 0x05 with irqStatus := 0x05 }
    (after .read19 s (·.readData), after2 .read19 (.write19 0 0x01) s (fun t => (t.irqStatus, t.irqLine)),
      after2 .read20 (.write19 0 0x01) s (fun t => (t.irqStatus, t.irqLine))) =
    (some 0xF5, some (0, false), some (0x05, true)) := by decide +kernel

/-- V17: enabling a pending source requests, disabling it releases. -/
theorem test_irq_mask :
    let s := { State.reset with irqStatus := 0x01 }
    (after .read19 s (·.readData), after2 (.write1A 0 0x01) .read19 s (·.readData),
      after2 (.write1A 0 0x01) (.write1A 0 0x00) s (·.irqLine)) = (some 0x71, some 0xF1, some false) := by decide +kernel

/-- V18: a compare value equal to the line in progress, and the next line. -/
theorem test_raster_compare :
    let s := withCr1 0x1B (at_ 0x64 30)
    (after (.write12 0 0x64) s (fun t => (t.rasterIrqLine, t.rasterIrqClk, t.irqStatus)),
      after (.write12 0 0x65) s (fun t => (t.rasterIrqClk, t.irqStatus))) =
    (some (0x64, 25956, 1), some (6363, 0)) := by decide +kernel

/-- V19: 0x138 disarms with a warning, 0x137 arms. -/
theorem test_raster_out_of_range :
    (after (.write11 0 0x9B) (State.reset.setReg 0x12 0x38) (fun t => (t.rasterIrqClk, t.log, t.reg 0x11)),
      after (.write11 0 0x9B) (State.reset.setReg 0x12 0x37) (fun t => (t.rasterIrqClk, t.log))) =
    (some (clockMax, [.rasterCompareOutOfRange 0x138], 0x9B), some (19593, [])) := by decide +kernel

/-- V20: the queue entry of a colour write; the same nibble queues nothing. -/
theorem test_colour_write :
    let s := (at_ 0 30).setReg 0x20 0x0E
    (after (.write20 0 0x02) s (·.changes), after2 (.write20 0 0x02) (.write20 0 0xF2) s (fun t => (t.changes.length, t.reg 0x20))) =
    (some [⟨240, .borderColor 2⟩], some (1, 0xF2)) := by decide +kernel

/-- V21b: the mode bits of both control registers. -/
theorem test_mode_writes :
    let s := (withCr1 0x1B (at_ 0 20)).setReg 0x16 0x08
    (after (.write16 0 0x18) s (·.changes), after2 (.write16 0 0x18) (.write11 0 0x5B) s (fun t => (t.changes.getLast?, t.videoMode))) =
    (some [⟨160, .videoMode .multicolorText⟩], some (some ⟨160, .videoMode .illegalText⟩, .illegalText)) := by decide +kernel

/-- V21, P1: the pointers WRITE 18 queues; a bank of 0x4000 with 0x38. -/
theorem test_pointer_write :
    (after (.write18 0 0x14) (at_ 0 2) (·.changes),
      after (.write18 0 0x38) { at_ 0 2 with vbankPhi1 := 0x4000 } (fun t => (t.screenAddr, t.charAddr, t.bitmapAddr))) =
    (some [⟨16, .screenBase 0x0400⟩, ⟨16, .charBase 0x1000⟩], some (0x4C00, 0x6000, 0x6000)) := by decide +kernel

/-- V21a: the ninth bit of a sprite's X. -/
theorem test_sprite_x : (after2 (.write00 0 0x18) (.write10 0 0x01) State.reset (fun t => t.spriteX 0),
    after2 (.write00 0 0x18) (.write10 0 0x02) State.reset (fun t => t.spriteX 0)) = (some 0x118, some 0x018) := by decide +kernel

/-- Sprite 2 of V33: active, its flip-flop 0, its pointer at 9. -/
def crunchState : State :=
  { State.reset.setReg 0x17 0x04 with
    newSpriteDmaMask := 0x04
    sprites := (Vector.replicate 8 Sprite.reset).set 2 { Sprite.reset with memptr := 9 } }

/-- V33: the crunch, and the check that follows it. -/
theorem test_crunch :
    (after (.write17 0 0x00) crunchState (fun t => (t.sprites[2].memptrInc, t.sprites[2].expFlag)),
      after2 (.write17 0 0x00) .eventCheckSpriteDma crunchState (fun t => (t.sprites[2].memptr, t.sprites[2].memptrInc))) =
    (some (4, true), some (13, 3)) := by decide +kernel

/-- V14 (a) and (b): the flush bound with `write_cycles`. -/
theorem test_flush_bound :
    let s := { withCr1 0x1B (at_ 0x33 10) with clk := 3225 }
    (after (.write20 0 0x05) s (fun t => ([t.clk, t.fetchClk], t.changes)),
      after (.write20 2 0x05) s (fun t => ([t.clk, t.fetchClk], t.changes))) =
    (some ([3268, 3287], [⟨440, .borderColor 5⟩]), some ([3225, 3224], [⟨96, .borderColor 5⟩])) := by decide +kernel

/-- V7a: WRITE 11 makes line 0x30 bad before the window. -/
theorem test_bad_before_window : after (.write11 0 0x18) (at_ 0x30 10) (fun t => (t.badLine, t.stolenCycles, t.blank)) =
    some (true, 0, false) := by decide +kernel

/-- The state of V25 at line 0x35 cycle 20, with the matrix at 0 written out where the test reads it. -/
def forcedState (idle : Bool) : State :=
  { withCr1 0x1B (at_ 0x35 20) with memptr := 80, memCounter := 80, idleState := idle, ram := [(83, 0x33), (89, 0x39), (113, 0x3D), (119, 0x3F)] }

/-- V25, display state: the columns, the steal, the increment. -/
theorem test_bad_inside_window : after (.write11 0 0x1D) (forcedState false) (fun t =>
    ([t.vbuf[6], t.vbuf[8], t.vbuf[9], t.vbuf[39], t.vbuf[5]], t.memCounterInc, t.stolenCycles)) =
    some ([0xFF, 0xFF, 0x39, 0x3F, 0], 40, 34) := by decide +kernel

/-- V25, idle state: filled from column 0. -/
theorem test_bad_inside_window_idle : after (.write11 0 0x1D) (forcedState true) (fun t =>
    ([t.vbuf[0], t.vbuf[2], t.vbuf[3], t.vbuf[33], t.vbuf[34]], t.memCounterInc, t.idleState)) =
    some ([0xFF, 0xFF, 0x33, 0x3D, 0], 6, false) := by decide +kernel

/-! Events. -/

/-- V24: ADVANCE serves the regular bad line and the check. -/
theorem test_advance_bad_line :
    let s := { withCr1 0x1B (at_ 0x33 10) with clk := 3224, ram := [(0, 0x41), (39, 0x42)] }
    after .eventAdvance s (fun t => (t.clk, t.stolenCycles, t.fetchClk, t.fetchIdx, t.vbuf[0], t.backgroundColorSource)) =
    some (3267, 43, 3287, .fetchMatrix, 0x41, 0x42) := by decide +kernel

/-- V29, its last instant: at the frame wrap the draw alarm, then the raster alarm. -/
theorem test_advance_frame_wrap :
    let s := { at_ 311 62 with clk := 19656 }
    after .eventAdvance s (fun t => (t.clkOrigin, t.currentLine, t.irqStatus, t.rasterIrqClk, t.drawClk)) =
    some (19656, 0, 1, 39312, 19719) := by decide +kernel

/-- R144: the flush serves the draw alarm at its time, not one cycle before; the raster alarm waits. -/
theorem test_handle_pending_alarms :
    let s := { at_ 0 53 with clk := 63, rasterIrqClk := 63 }
    (after .eventHandlePendingAlarms s (fun t => (t.currentLine, t.irqStatus)),
      after .eventHandlePendingAlarms { s with operands := { HostOperands.zero with writeCycles := 1 } } (·.currentLine)) =
    (some (1, 0), some 0) := by decide +kernel

/-- V26: the row counter after a line that became bad late. -/
theorem test_draw_alarm_counts : after .eventDrawAlarm
    { at_ 0x30 57 with ycounter := 7, memCounter := 120, badLine := true, memCounterInc := 0, forceDisplayState := true }
    (fun t => (t.memCounter, t.memCounterInc, t.memptr, t.ycounter, t.idleState, t.forceDisplayState)) =
    some (120, 40, 120, 0, false, false) := by decide +kernel

/-- Sprites 0 and 1 of V43 over the foreground pixel of column 0. -/
def collisionState : State :=
  { withCr1 0x1B (at_ 0x40 60) with
    verticalBorder := false
    idleState := false
    spriteDmaMask := 0x03
    regs := ((withCr1 0x1B (at_ 0x40 60)).regs.set 0 24).set 2 24
    sprites := ((Vector.replicate 8 Sprite.reset).set 0 { Sprite.reset with data := 0x800000 }).set 1
      { Sprite.reset with data := 0x800000 }
    vbuf := Vector.replicate 40 0
    ram := [(0, 0x80)] }

/-- V43: both accumulators and both status bits. -/
theorem test_draw_alarm_collisions : after .eventDrawAlarm collisionState (fun t =>
    (t.spriteSpriteCollisions, t.spriteBackgroundCollisions, t.irqStatus)) = some (0x03, 0x03, 0x06) := by decide +kernel

/-- V37: a NormalText cell over background 6; V41: the right edge of 38 columns (border 0 from X = 431 on). -/
theorem test_draw_line : after .eventDrawLine
    { collisionState with
      spriteDmaMask := 0
      cbuf := Vector.replicate 40 1
      lineStart := { collisionState.lineStart with background := #v[6, 0, 0, 0], borderColor := 3 } }
    (fun t => (t.lines.map fun d => (d.line, (d.pixels.drop 126).take 3, (d.pixels.drop 128).take 3, (d.pixels.drop 430).take 2))) =
    some [(0x40, [3, 6, 1], [1, 6, 6], [6, 3])] := by decide +kernel

/-- R151: the status bit is set though masked, the alarm moves on by a frame. -/
theorem test_raster_alarm : after .eventRasterIrqAlarm State.reset (fun t => (t.irqStatus, t.irqLine, t.rasterIrqClk)) =
    some (1, false, 39312) := by decide +kernel

/-- V35: the tuple of mask 0x80 is served after the draw alarm of the line, so `data` is written at once. -/
theorem test_fetch_alarm_sprite : after .eventFetchAlarm
    { (at_ 0 60).setReg 0x18 0x14 with
      fetchIdx := .fetchSprite, spriteFetchMsk := 0x80, spriteFetchBase := 54, fetchClk := 68
      ram := [(0x340, 1), (0x341, 2), (0x342, 3), (0x7FF, 0x0D)] }
    (fun t => (t.sprites[7].pointer, t.sprites[7].dataNext, t.sprites[7].data, t.stolenCycles, t.fetchClk)) =
    some (0x0D, 0x010203, 0x010203, 5, 74) := by decide +kernel

/-- V35, V32: mask 0x01 before the draw alarm; the block wraps at offset 62. -/
theorem test_fetch_sprite : after .eventFetchSprite
    { (at_ 0 53).setReg 0x18 0x14 with
      fetchIdx := .fetchSprite, spriteFetchMsk := 0x01, spriteFetchBase := 54, fetchClk := 54
      sprites := (Vector.replicate 8 Sprite.reset).set 0 { Sprite.reset with memptr := 62 }
      ram := [(0x340, 3), (0x37E, 1), (0x37F, 2), (0x7F8, 0x0D)] }
    (fun t => (t.sprites[0].dataNext, t.sprites[0].data, t.fetchIdx, t.fetchClk)) =
    some (0x010203, 0, .fetchMatrix, 74) := by decide +kernel

/-- V31, V32: the start of an unexpanded sprite, and the end of one at 63. -/
theorem test_check_sprite_dma :
    (after .eventCheckSpriteDma (((at_ 0x64 53).setReg 0x15 0x01).setReg 0x01 0x64)
      (fun t => (t.newSpriteDmaMask, t.sprites[0].memptr, t.sprites[0].expFlag, t.sprites[0].memptrInc)),
     after .eventCheckSpriteDma { at_ 0x79 53 with
        newSpriteDmaMask := 0x01
        sprites := (Vector.replicate 8 Sprite.reset).set 0 { Sprite.reset with memptr := 60, memptrInc := 3, expFlag := true } }
      (fun t => (t.newSpriteDmaMask, t.sprites[0].memptr))) =
    (some (0x01, 0, true, 3), some (0x00, 63)) := by decide +kernel

/-- V34: the wrap of the matrix counter; out of range is an AssertFail (R175). -/
theorem test_fetch_matrix :
    let s := { State.reset with memCounter := 1000, ram := [(0, 7), (15, 8), (1000, 5), (1023, 6)] }
    (after .eventFetchMatrix { s with operands := { HostOperands.zero with count := 40 } }
      (fun t => (t.vbuf[0], t.vbuf[23], t.vbuf[24], t.vbuf[39], t.backgroundColorSource)),
     faultOf .eventFetchMatrix { s with operands := { HostOperands.zero with offset := 1, count := 40 } }) =
    (some (5, 6, 7, 8, 8), some (.assertFail .fetchMatrixRange)) := by decide +kernel

/-- V27: becoming good before and after cycle `FETCH_CYCLE`. -/
theorem test_badline_eval :
    let s := fun c => { State.reset with
      badLine := true, operands := { HostOperands.zero with oldCr := 0x1B, newCr := 0x0B, line := 0x33, cycle := c } }
    (after .eventBadlineEval (s 5) (fun t => (t.badLine, t.forceDisplayState, t.allowBadLines)),
      after .eventBadlineEval (s 20) (fun t => (t.badLine, t.forceDisplayState))) =
    (some (false, true, false), some (true, true)) := by decide +kernel

/-- V30b: every clock moves back, a disarmed alarm stays. -/
theorem test_clock_overflow : after .eventClockOverflow
    { State.reset with
      clk := 0x40001000, clkOrigin := 0x40000F00, fetchClk := 0x40001007, drawClk := 0x4000103B, rasterIrqClk := clockMax
      operands := { HostOperands.zero with sub := 0x40000000 } }
    (fun t => ([t.clk, t.clkOrigin, t.fetchClk, t.drawClk, t.rasterIrqClk], [t.lineNow, t.cycleNow])) =
    some ([0x1000, 0xF00, 0x1007, 0x103B, clockMax], [4, 4]) := by decide +kernel

/-- V50: RESET at `clk = 5000`. -/
theorem test_reset : after .eventReset { collisionState with clk := 5000 } (fun t =>
    (t.clkOrigin, t.fetchClk, t.drawClk, t.rasterIrqClk, t.idleState, t.blank)) =
    some (5000, 5011, 5063, 24656, true, true) := by decide +kernel

/-- V47: bytes of the body straight after reset. -/
theorem test_snapshot_write : after .eventSnapshotWrite State.reset (fun t => t.snapshotOut.map fun p =>
    (p.version, p.body.length, [p.body[2]?, p.body[1067]?, p.body[1218]?, p.body[1222]?])) =
    some (some (⟨1, 1⟩, 1223, [some 1, some 1, some 0x0B, some 0])) := by decide +kernel

/-- The body of V48: zero but for the raster position line 0x80 cycle 20, tick 33 and type 1. -/
def loadBody : List Byte :=
  List.replicate 1116 0 ++ [20, 0x80, 0] ++ List.replicate 99 0 ++ [33, 0, 0, 0, 1]

/-- A body at line 0x80 cycle 20, before the tuple of sprite 0, with every checked field at the end of its range. -/
def spriteBody : List Byte :=
  [1, 1, 1] ++ List.replicate 1064 0 ++ [1, 1, 0, 0] ++ List.replicate 39 0 ++ [0x5A, 0x01, 0, 0, 0, 0, 20, 0x80, 0] ++
    List.replicate 67 0 ++ [0, 0xC0, 0xFF, 0x03, 40, 0xFF, 0x03, 0x0F] ++
    (List.replicate 8 [63, 63, 1]).flatten ++ [34, 0, 0, 0, 2]

/-- V48, V49: the load at the same position; one cycle later; a newer version. -/
theorem test_snapshot_load :
    let s := fun c v => { at_ 0x80 c with operands := { HostOperands.zero with version := ⟨v, 0⟩, body := loadBody } }
    after .eventSnapshotLoad (s 20 1) (fun t => ([t.fetchClk, t.drawClk], t.fetchIdx, t.currentLine, t.ycounter)) =
      some ([8117, 8127], .checkSpriteDma, 0x80, 0) ∧
    [after .eventSnapshotLoad (s 20 1) (·.log), after .eventSnapshotLoad (s 21 1) (·.log),
      after .eventSnapshotLoad (s 20 2) (·.log)] =
    [some [], some [.snapshotLoadError .rasterPositionMismatch], some [.snapshotVersionError ⟨2, 0⟩]] := by decide +kernel

/-- R249: the list in progress of a body in FETCH_SPRITE: base at cycle 54 of line 0x80, tuple 0 of the list of mask 1. -/
theorem test_snapshot_load_sprite : after .eventSnapshotLoad
    { at_ 0x80 20 with operands := { HostOperands.zero with version := ⟨1, 1⟩, body := spriteBody } }
    (fun t => ([t.fetchClk, t.spriteFetchBase, t.drawClk], t.spriteFetchIdx, t.spriteFetchMsk, t.backgroundColorSource)) =
    some ([8118, 8118, 8127], 0, 0x01, 0x5A) := by decide +kernel

/-- R47: the example. -/
theorem test_set_vbank : after .eventSetVbank
    { State.reset.setReg 0x18 0x14 with operands := { HostOperands.zero with vbankPhi1 := 0x4000, vbankPhi2 := 0x4000 } }
    (fun t => (t.vbankPhi1, t.vbankPhi2, t.screenAddr)) = some (0x4000, 0x4000, 0x4400) := by decide +kernel

/-- R48: the RAM base is added to every RAM address. -/
theorem test_set_ram_base : after .eventSetRamBase
    { State.reset with ram := [(0x10005, 0x77)], operands := { HostOperands.zero with ramBase := 0x10000 } }
    (fun t => (t.ramBaseOffset, t.phi1Read 5)) = some (0x10000, 0x77) := by decide +kernel

/-- V46: the latch. -/
theorem test_lightpen : after .eventLightpenTrigger (at_ 0x64 20) (fun t =>
    (t.lightPen.triggered, t.lightPen.x, t.lightPen.y, t.irqStatus)) = some (true, 0x20, 0x64, 8) := by decide +kernel

/-- V51: a store at the fetch's own time is not seen by it, one a cycle earlier is. -/
theorem test_video_ram_store :
    let s := { withCr1 0x1B (at_ 0x33 10) with
      colorRam := [(5, 1)]
      operands := { HostOperands.zero with space := .colorRam, addr := 5, value := 7 } }
    (after .eventVideoRamStore { s with clk := 3224 } (fun t => (t.cbuf[5], t.colorByte 5)),
      after2 .eventVideoRamStore .eventFetchAlarm s (fun t => t.cbuf[5])) = (some (1, 7), some 7) := by decide +kernel

/-- R67: a reserved word performs nothing; an idle machine stays as it is. -/
theorem test_step : (match step (State.reset.withFetchWord 24 0x31200) with
    | .refused e => some e
    | _ => none) = some (.reservedWord (.reservedEvent 0x12)) ∧
    (match step (State.reset.withFetchWord 24 0x12005) with
    | .next t => some (t.reg 0x20, t.inbox)
    | _ => none) = some (0x05, []) := by decide +kernel

/-- R64: with the swapped map a word for address 0x17 goes to CR2, and the snapshot has CR2's byte at 1119 + 0x17. -/
theorem test_register_map :
    let s := { State.reset with cfg := { Config.palDefaults with regmap := swappedMap, ok := by decide +kernel } }
    (match step (s.withFetchWord 18 0x11718) with
    | .next t => some (t.reg 0x16, t.videoMode, t.body[1119 + 0x17]?, t.body[1119 + 0x16]?, (storeBody t.body s).reg 0x16)
    | _ => none) = some (0x18, .multicolorText, some 0x18, some 0x00, 0x18) := by decide +kernel

/-- R65: with bits 0 and 7 of VICIRQ and IRQMASK in each other's place, 0x80 on the bus enables the raster source, the read shows
it in bit 7, the acknowledge finds it there, and the snapshot has the byte that was on the bus. -/
theorem test_bit_places :
    let s := { State.reset with
      cfg := { Config.palDefaults with
        bitmap := (Config.defaultBitmap.set 0x19 swappedPlaces).set 0x1A swappedPlaces, ok := by decide +kernel }
      irqStatus := 0x01 }
    (match step (s.withFetchWord 18 0x11A80) with
    | .next t => some (t.reg 0x1A, t.irqLine, t.body[1119 + 0x1A]?, (storeBody t.body s).reg 0x1A)
    | _ => none) = some (0x01, true, some 0x80, 0x01) ∧
    (match step (s.withFetchWord 18 0x01900) with
    | .next t => some (t.readData, after (.write19 0 0) t (·.irqStatus))
    | _ => none) = some (0xF0, some 0) := by decide +kernel

/-- R41: a change made by a memory provider before the operation is seen by it. -/
theorem test_memory_change :
    let r := { State.reset.plainRequest 0x30700 with
      memory := [.ram 0 0x11, .chargen 1 0x22, .ram 0 0x33], operands := { HostOperands.zero with count := 1 } }
    (match step { State.reset with inbox := [r] } with
    | .next t => some (t.vbuf[0], t.chargenByte 1, t.memoryTime)
    | _ => none) = some (0x33, 0x22, 1) := by decide +kernel

/-- R256: bits 7:4 of a loaded VideoIrqStatus are not taken over. -/
theorem test_load_irq_status : (storeBody (List.replicate 1193 0 ++ [0xF5]) State.reset).irqStatus = 0x05 := by decide +kernel

/-! Witnesses: for each statement with hypotheses, a state and operands that meet them, each clause at a boundary. -/

/-- The outcome is a next state. -/
def answers (o : Host.Outcome State Fault Refusal) : Bool :=
  match o with
  | .next _ => true
  | _ => false

theorem next_of_answers {o : Host.Outcome State Fault Refusal} (h : answers o = true) : ∃ t, o = .next t := by
  cases o with
  | next t => exact ⟨t, rfl⟩
  | fault _ => cases h
  | refused _ => cases h

theorem fault_of_answer {i : Instr} {s : State} (h : (faultOf i s).isSome = true) : ∃ e, exec i s = .fault e := by
  unfold faultOf at h
  split at h
  · next e he => exact ⟨e, he⟩
  · cases h

/-- The flush ends in a state. -/
def flushes (wc : Nat) (s : State) : Bool := (flush wc s).toOption.isSome

theorem ok_of_flushes {wc : Nat} {s : State} (h : flushes wc s = true) : ∃ s1, flush wc s = .ok s1 := by
  unfold flushes at h
  cases hf : flush wc s with
  | ok s1 => exact ⟨s1, rfl⟩
  | error e => rw [hf] at h; cases h

theorem error_of_not_flushes {wc : Nat} {s : State} (h : flushes wc s = false) : ∃ e, flush wc s = .error e := by
  unfold flushes at h
  cases hf : flush wc s with
  | ok s1 => rw [hf] at h; cases h
  | error e => exact ⟨e, rfl⟩

/-- A state in which the fetch alarm is due and ends in an AssertFail: its index is outside its list. -/
def badFetchState : State := { State.reset with clk := 14, fetchIdx := .fetchSprite }

/-- The reset state with operands beside the word. -/
def withOperands (o : HostOperands) : State := { State.reset with operands := o }

/-- The three clauses of `FlushedResult`, for the read and write statements and LIGHTPEN_TRIGGER: a flush that serves an
alarm at the rolled-back time (cycle 11 with `wc` 0, cycle 14 with `wc` 3), one that ends in a fault, a quiet state. -/
theorem witness_FlushedResult :
    (∃ s1, flush 0 { State.reset with clk := 11 } = .ok s1) ∧ (∃ s1, flush 3 { State.reset with clk := 14 } = .ok s1) ∧
      (∃ e, flush 0 badFetchState = .error e) ∧ (∃ e, flush 3 badFetchState = .error e) ∧
      ({ State.reset with clk := 10 }).quiet 0 = true ∧ ({ State.reset with clk := 13 }).quiet 3 = true :=
  ⟨ok_of_flushes (by decide +kernel), ok_of_flushes (by decide +kernel), error_of_not_flushes (by decide +kernel),
    error_of_not_flushes (by decide +kernel), by decide +kernel, by decide +kernel⟩

theorem witness_ReadReturnsStoredByte : (.read00, 0x00) ∈ storedReads ∧ (.read3F, 0x3F) ∈ storedReads := by decide

theorem witness_WriteStoresTheByte : (.write00 3 0xFF, 0x00) ∈ storedWrites 3 0xFF ∧
    (.write1D 0 0x00, 0x1D) ∈ storedWrites 0 0x00 := by decide

theorem witness_WriteToNoRegisterIsIgnored : .write13 0 0x00 ∈ ignoredWrites 0 0x00 ∧ .write3F 3 0xFF ∈ ignoredWrites 3 0xFF := by
  decide

theorem witness_WriteColourQueuesChange : (.write20 0 0xF2, 0x20, .borderColor 2) ∈ colourWrites 0 0xF2 ∧
    (.write2E 3 0x0F, 0x2E, .spriteColor 7 0xF) ∈ colourWrites 3 0x0F := by decide

theorem witness_EncodeOfDecodeIsIdentity : decode 0x1111B#18 = .ok (.write11 0 0x1B) := by rfl

/-- Each clause of R67, and the second half's step. -/
theorem witness_ReservedWordsAreRefused :
    decode 0x31200#18 = .error (.reservedEvent 0x12) ∧ decode 0x33F00#18 = .error (.reservedEvent 0x3F) ∧
      decode 0x01901#18 = .error .nonZeroField ∧ decode 0x24000#18 = .error .nonZeroField ∧
      (State.reset.withFetchWord 18 0x31200).inbox = [State.reset.plainRequest 0x31200#18] := by
  refine ⟨by rfl, by rfl, by rfl, by rfl, by decide⟩

theorem witness_StepRunsTheDecodedInstruction :
    (State.reset.withFetchWord 18 0x1111B).inbox = [State.reset.plainRequest 0x1111B#18] ∧
      decode (State.reset.busWord (State.reset.plainRequest 0x1111B#18).word) = .ok (.write11 0 0x1B) ∧
      State.reset.inbox = [] ∧ State.reset.cfg.regmap = Config.defaultRegmap ∧ State.reset.cfg.bitmap = Config.defaultBitmap := by
  refine ⟨by decide, by rfl, rfl, rfl, rfl⟩

theorem witness_ReadClearsCollisions :
    let s := { State.reset with spriteSpriteCollisions := 0xFF }
    s.quiet 0 = true ∧ s.cfg.always1At 0x1E = 0 := by decide +kernel

theorem witness_PeekHasNoSideEffect : (Instr.read1E, Instr.peek1E) ∈ readPeekPairs ∧ State.reset.quiet 0 = true := by
  decide +kernel

/-- A flush that serves an alarm (cycle 11 with `wc` 0, cycle 14 with `wc` 3), one that ends in a fault, a quiet state. -/
theorem witness_WriteControlRegister1 :
    (∃ s1, flush 0 { at_ 0x35 10 with clk := 63 * 0x35 + 11 } = .ok s1) ∧
      (∃ s1, flush 3 { at_ 0x35 10 with clk := 63 * 0x35 + 14 } = .ok s1) ∧
      ({ at_ 0x35 10 with clk := 63 * 0x35 + 11 }).quiet 0 = false ∧ (∃ e, flush 3 badFetchState = .error e) ∧
      (at_ 0x35 10).quiet 0 = true ∧ (at_ 0x35 13).quiet 3 = true :=
  ⟨ok_of_flushes (by decide +kernel), ok_of_flushes (by decide +kernel), by decide +kernel,
    error_of_not_flushes (by decide +kernel), by decide +kernel, by decide +kernel⟩

theorem witness_FlushIsIdempotent : State.reset.quiet 3 = true ∧ ∃ s1, flush 0 { State.reset with clk := 63 } = .ok s1 :=
  ⟨by decide +kernel, ok_of_flushes (by decide +kernel)⟩

theorem witness_FlushLeavesTheRegisterFile : ∃ t, flush 3 { State.reset with clk := 66 } = .ok t :=
  ok_of_flushes (by decide +kernel)

/-- An ADVANCE that serves an alarm, one that ends with every alarm disarmed, and nothing due. -/
theorem witness_AdvanceServesEveryDueAlarm :
    (∃ t, exec .eventAdvance { State.reset with clk := 11 } = .next t) ∧
      (∃ t, exec .eventAdvance { State.reset with fetchClk := clockMax, drawClk := clockMax, rasterIrqClk := clockMax } =
        .next t) ∧ State.reset.allQuiet ∧ ({ State.reset with rasterIrqClk := clockMax }).allQuiet :=
  ⟨next_of_answers (by decide +kernel), next_of_answers (by decide +kernel), by decide +kernel, by decide +kernel⟩

/-- Ties: the fetch alarm at the time of both others, the draw alarm at the time of the raster alarm, the raster alarm alone;
the flush, at its rolled-back time, with the fetch alarm at the time of the draw alarm and with the draw alarm first. -/
theorem witness_OneDueAlarmIsServedOnce_order :
    (let s := { State.reset with clk := 63, fetchClk := 63, drawClk := 63, rasterIrqClk := 63 };
      s.fetchClk ≤ s.clk ∧ s.fetchClk ≠ s.cfg.clockMax ∧ s.fetchClk ≤ s.drawClk ∧ s.fetchClk ≤ s.rasterIrqClk) ∧
    (let s := { State.reset with clk := 63, fetchClk := 64, drawClk := 63, rasterIrqClk := 63 };
      s.drawClk ≤ s.clk ∧ s.drawClk ≠ s.cfg.clockMax ∧ s.drawClk < s.fetchClk ∧ s.drawClk ≤ s.rasterIrqClk) ∧
    (let s := { State.reset with clk := 63, fetchClk := 64, drawClk := 64, rasterIrqClk := 63 };
      s.rasterIrqClk ≤ s.clk ∧ s.rasterIrqClk ≠ s.cfg.clockMax ∧ s.rasterIrqClk < s.fetchClk ∧
        s.rasterIrqClk < s.drawClk) ∧
    (let s := { withOperands { HostOperands.zero with writeCycles := 3 } with clk := 66, fetchClk := 63 };
      s.dueAt s.operands.writeCycles.toNat s.fetchClk = true ∧ s.fetchClk ≤ s.drawClk) ∧
    (let s := { withOperands { HostOperands.zero with writeCycles := 3 } with clk := 66, fetchClk := 64 };
      s.dueAt s.operands.writeCycles.toNat s.drawClk = true ∧ s.drawClk < s.fetchClk) := by decide +kernel

/-- Only the raster alarm due, at its own time; only the draw alarm due, with `write_cycles` 0 and 3. -/
theorem witness_OneDueAlarmIsServedOnce :
    (let s := { State.reset with clk := 19656, fetchClk := 19657, drawClk := 19657 };
      s.clk < s.fetchClk ∧ s.clk < s.drawClk ∧ s.rasterIrqClk ≤ s.clk ∧ s.rasterIrqClk ≠ s.cfg.clockMax ∧
        s.clk < s.rasterIrqClk + BitVec.ofNat 32 s.cfg.frame) ∧
    ∀ wc ∈ [0#2, 3#2],
      let s := { withOperands { HostOperands.zero with writeCycles := wc } with clk := 63 + wc.setWidth 32, fetchClk := 67 }
      s.dueAt s.operands.writeCycles.toNat s.drawClk = true ∧ s.dueAt s.operands.writeCycles.toNat s.fetchClk = false ∧
        s.dueAt s.operands.writeCycles.toNat (s.drawClk + BitVec.ofNat 32 s.cfg.cpl) = false := by decide +kernel

/-- Lines 0x2F and 0xF8, next to the DMA window (V22). -/
theorem witness_FetchAlarmOnAGoodLine :
    let s := { State.reset.setReg 0x11 0x1F with fetchClk := 2972 }
    let u := { State.reset.setReg 0x11 0x18 with fetchClk := 15635 }
    s.fetchIdx = .fetchMatrix ∧ badLineCondition s.cfg.toConfig (s.reg 0x11) (s.rasterY s.fetchClk.toNat) = false ∧
      u.fetchIdx = .fetchMatrix ∧ badLineCondition u.cfg.toConfig (u.reg 0x11) (u.rasterY u.fetchClk.toNat) = false := by
  decide +kernel

/-- Lines 0x30 and 0xF7, the ends of the DMA window (V23). -/
theorem witness_FetchAlarmOnABadLine :
    let s := { State.reset.setReg 0x11 0x18 with fetchClk := 3035 }
    let u := { State.reset.setReg 0x11 0x1F with fetchClk := 15572 }
    s.fetchIdx = .fetchMatrix ∧ badLineCondition s.cfg.toConfig (s.reg 0x11) (s.rasterY s.fetchClk.toNat) = true ∧
      u.fetchIdx = .fetchMatrix ∧ badLineCondition u.cfg.toConfig (u.reg 0x11) (u.rasterY u.fetchClk.toNat) = true := by
  decide +kernel

/-- No sprite starts; sprite 0 starts on line 0. -/
theorem witness_FetchAlarmChecksSprites :
    after .eventCheckSpriteDma (at_ 0 11) (fun t => (t.newSpriteDmaMask, (at_ 0 11).fetchIdx)) = some (0, .checkSpriteDma) ∧
      after .eventCheckSpriteDma ((at_ 0 11).setReg 0x15 0x01) (·.newSpriteDmaMask) = some 1 := by decide +kernel

/-- The first of two tuples (mask 0x09), the last, and the index just past the list. -/
theorem witness_FetchSpriteServesOneTuple :
    let s := fun k => { State.reset with fetchIdx := .fetchSprite, spriteFetchMsk := 0x09, spriteFetchIdx := k }
    ((s 0).cfg.fetchList (s 0).spriteFetchMsk)[(s 0).spriteFetchIdx]? = some ⟨0, 5, 0, 0⟩ ∧
      ((s 0).cfg.fetchList (s 0).spriteFetchMsk)[(s 0).spriteFetchIdx + 1]? = some ⟨6, 5, 3, 3⟩ ∧
      ((s 1).cfg.fetchList (s 1).spriteFetchMsk)[(s 1).spriteFetchIdx + 1]? = none ∧
      ((s 2).cfg.fetchList (s 2).spriteFetchMsk).length ≤ (s 2).spriteFetchIdx ∧ (s 0).fetchIdx = .fetchSprite := by
  decide +kernel

theorem witness_DrawAlarmRaisesCollisionInterrupts : DerivedOk State.reset := by decide +kernel

theorem witness_RasterAlarmRaisesInterrupt : State.reset.rasterIrqClk ≠ State.reset.cfg.clockMax ∧
    ({ State.reset with rasterIrqClk := clockMax }).rasterIrqClk = State.reset.cfg.clockMax := by decide +kernel

/-- `sub` equal to every clock field that counts, and one field at a time just below it: the origin, each alarm, the base of a
list in progress; a disarmed alarm and the base without a list do not count. -/
theorem witness_ClockOverflowMovesEveryClock :
    let s := { withOperands { HostOperands.zero with sub := 5000 } with
      clk := 5000, clkOrigin := 5000, fetchClk := 5001, drawClk := 5001, rasterIrqClk := clockMax, spriteFetchBase := 4999 }
    (s.quiet 0 = true ∧ ¬s.clkOrigin < s.operands.sub ∧ ¬s.fetchClk < s.operands.sub ∧ ¬s.drawClk < s.operands.sub ∧
      s.rasterIrqClk = s.cfg.clockMax ∧ s.fetchIdx ≠ .fetchSprite ∧ s.clkOrigin ≤ s.clk) ∧
    ({ s with clkOrigin := 4999 }).clkOrigin < s.operands.sub ∧
    (∃ s1, flush 0 { s with fetchClk := 4999, operands := { s.operands with sub := 5075 } } = .ok s1) ∧
    (∃ e, flush 0 { s with fetchClk := 4999, fetchIdx := .fetchSprite } = .error e) ∧
    (({ s with rasterIrqClk := 4999 }).rasterIrqClk ≠ s.cfg.clockMax ∧
      ({ s with rasterIrqClk := 4999 }).rasterIrqClk < s.operands.sub) ∧
    (({ s with fetchIdx := .fetchSprite }).fetchIdx = .fetchSprite ∧ s.spriteFetchBase < s.operands.sub) :=
  ⟨by decide +kernel, by decide +kernel, ok_of_flushes (by decide +kernel), error_of_not_flushes (by decide +kernel),
    by decide +kernel, by decide +kernel⟩

/-- The ends of the DMA window (V22, V23), and both evaluations. -/
theorem witness_BadLineConditionIsTheRule :
    (badLineCondition Config.palDefaults 0x18 0x30 = true ∧ badLineCondition Config.palDefaults 0x1F 0xF7 = true ∧
      badLineCondition Config.palDefaults 0x1F 0x2F = false ∧ badLineCondition Config.palDefaults 0x18 0xF8 = false) ∧
    (∃ t, exec .eventBadlineEval State.reset = .next t) ∧
    State.reset.fetchIdx = .fetchMatrix ∧ ∃ t, exec .eventFetchAlarm State.reset = .next t :=
  ⟨by decide, next_of_answers (by decide +kernel), rfl, next_of_answers (by decide +kernel)⟩

/-- The clauses of `BadlineEvalOutsideTheWindow`: no transition; cycles 10 and 54; becoming good at cycles 0 and 11. -/
theorem witness_BadlineEvalOutsideTheWindow :
    let c := Config.palDefaults
    (badLineCondition c 0x1B 0x35 = badLineCondition c 0x0B 0x35) ∧
      (badLineCondition c 0x1B 0x35 = false ∧ badLineCondition c 0x1D 0x35 = true ∧ 10 < c.fetchCycle) ∧
      c.fetchCycle + c.baLead + textCols ≤ 54 ∧
      (badLineCondition c 0x1D 0x35 = true ∧ badLineCondition c 0x1B 0x35 = false) := by decide

/-- The first and the last cycle of the window, and the first after the lead cycles. -/
theorem witness_BecomingBadInTheWindowFetches :
    ∀ c ∈ [11, 14, 53],
      let s := withOperands { HostOperands.zero with oldCr := 0x1B, newCr := 0x1D, line := 0x35, cycle := c }
      badLineCondition s.cfg.toConfig s.operands.oldCr s.operands.line = false ∧
        badLineCondition s.cfg.toConfig s.operands.newCr s.operands.line = true ∧
        s.cfg.fetchCycle ≤ s.operands.cycle ∧ s.operands.cycle < s.cfg.fetchCycle + s.cfg.baLead + textCols := by decide +kernel

/-- Ranges `(0, 40)` and `(40, 0)` are in; 41 columns, a negative offset and a negative count are out. -/
theorem witness_FetchMatrixCopiesColumns :
    (let s := withOperands { HostOperands.zero with offset := 40, count := 0 };
      s.operands.offset = (40 : Nat) ∧ s.operands.count = (0 : Nat) ∧ 40 + 0 ≤ 40) ∧
    (let s := withOperands { HostOperands.zero with offset := 0, count := 40 };
      s.operands.offset = (0 : Nat) ∧ s.operands.count = (40 : Nat) ∧ 0 + 40 ≤ 40) ∧
    ∀ p ∈ [((1 : Int), (40 : Int)), (-1, 0), (0, -1)],
      let s := withOperands { HostOperands.zero with offset := p.1, count := p.2 }
      s.operands.offset < 0 ∨ s.operands.count < 0 ∨ 40 < s.operands.offset + s.operands.count := by decide +kernel

/-- An active sprite that ends at 63 and one that goes on; one that starts; one that does not. -/
theorem witness_CheckSpriteDmaPerSprite :
    let s := { (State.reset.setReg 0x15 0x04) with
      newSpriteDmaMask := 0x03
      sprites := (Vector.replicate 8 Sprite.reset).set 0 { Sprite.reset with memptr := 60, memptrInc := 3 } }
    s.newSpriteDmaMask.getLsbD 0 = true ∧ s.sprites[0].memptr + s.sprites[0].memptrInc = 63 ∧
      s.newSpriteDmaMask.getLsbD 1 = true ∧ s.sprites[1].memptr + s.sprites[1].memptrInc ≠ 63 ∧
      s.newSpriteDmaMask.getLsbD 2 = false ∧ (s.reg 0x15).getLsbD 2 = true ∧ s.spriteY 2 = s.currentLine.setWidth 8 ∧
      s.newSpriteDmaMask.getLsbD 3 = false ∧ (s.reg 0x15).getLsbD 3 = false := by decide +kernel

/-- A border pixel, a pixel without a sprite, the front sprite with and without the priority bit. -/
theorem witness_PixelsAreComposed :
    let s := latchIdle (updateVerticalBorder collisionState)
    s.borderPixel 0 = true ∧ s.borderPixel 128 = false ∧ (∀ i, s.spritePixel (s.renderAt 128) i 128 = none) ∧
      ({ s with lineStart := { s.lineStart with columnMode := true } }).borderPixel 120 = false ∧
      s.spritePixel (s.renderAt 120) 0 120 = some 0 ∧ (s.gfxPixel 120).2 = true := by decide +kernel

/-- Sprites 0 and 1 overlap at pixel 120 of the line, over the foreground. -/
theorem witness_CollisionBitsOfALine :
    let s := latchIdle (updateVerticalBorder collisionState)
    (120 < 8 * s.cfg.cpl) ∧ (s.spritePixel (s.renderAt 120) 0 120).isSome = true ∧ (1 : SpriteNo) ≠ 0 ∧
      (s.spritePixel (s.renderAt 120) 1 120).isSome = true ∧ (s.gfxPixel 120).2 = true := by decide +kernel

/-- A change queued at cycle 30 governs pixel 240 and not pixel 239. -/
theorem witness_DeferredChangeTakesEffectAtItsX : (at_ 0 30).triggerX (at_ 0 30).clk ≤ 240 ∧
    ¬(at_ 0 30).triggerX (at_ 0 30).clk ≤ 239 := by decide +kernel

theorem witness_LightpenLatchesOncePerFrame : State.reset.lightPen.triggered = false ∧
    ({ State.reset with lightPen := ⟨true, 0, 0⟩ }).lightPen.triggered = true := by decide

theorem witness_SnapshotWriteGivesTheBody :
    (∃ s1, exec .eventAdvance { State.reset with clk := 63 } = .next s1) ∧
      (∃ e, exec .eventAdvance badFetchState = .fault e) ∧ State.reset.allQuiet ∧
      ({ State.reset with rasterIrqClk := clockMax }).allQuiet :=
  ⟨next_of_answers (by decide +kernel), fault_of_answer (by decide +kernel), by decide +kernel, by decide +kernel⟩

/-- A version newer by its minor number; sizes 1222 and 1224; a mismatch of the cycle and of the line. -/
theorem witness_SnapshotLoadIsAllOrNothing :
    let c := CheckedConfig.pal
    (Version.newerThan ⟨1, 2⟩ c.snapshotVersion = true ∧ Version.newerThan ⟨1, 1⟩ c.snapshotVersion = false) ∧
      ((List.replicate 1222 0#8).length ≠ 1223 ∧ (List.replicate 1224 0#8).length ≠ 1223 ∧ loadBody.length = 1223) ∧
      ((byteAt loadBody 1116).toNat ≠ (at_ 0x80 21).cycleNow ∧ (word16At loadBody 1117).toNat ≠ (at_ 0x81 20).lineNow) ∧
      (at_ 0x80 21).loadProblem ⟨1, 1⟩ loadBody = some (.snapshotLoadError .rasterPositionMismatch) := by decide +kernel

/-- The conditions of an accepted load, in fetch state CHECK_SPRITE_DMA and, with every checked field at the end of its
range and a tuple at the fetch time, in FETCH_SPRITE. -/
theorem witness_SnapshotRoundTrip_load :
    let u := at_ 0x80 20
    (Version.newerThan ⟨1, 1⟩ u.cfg.snapshotVersion = false) ∧
      (∀ b ∈ [loadBody, spriteBody], b.length = 1223 ∧ (b.getD 1116 0).toNat = u.cycleNow ∧
        (b.getD 1118 0 ++ b.getD 1117 0).toNat = u.lineNow ∧ b.getD 1222 0 ≤ 2 ∧
        (∀ k ∈ [0, 1, 2, 1067, 1068], b.getD k 0 ≤ 1) ∧
        (∀ i : SpriteNo, b.getD (1194 + 3 * i.val) 0 ≤ 63 ∧ b.getD (1195 + 3 * i.val) 0 ≤ 63 ∧
          b.getD (1196 + 3 * i.val) 0 ≤ 1) ∧
        b.getD 1189 0 ++ b.getD 1188 0 ≤ 1023#16 ∧ b.getD 1192 0 ++ b.getD 1191 0 ≤ 1023#16 ∧ b.getD 1190 0 ≤ 40 ∧
        (b.getD 1187 0 ++ b.getD 1186 0) &&& 0x3FFF#16 = 0) ∧
      loadBody.getD 1222 0 ≠ 2 ∧ spriteBody.getD 1222 0 = 2 ∧
      (u.cfg.fetchList (spriteBody.getD 1111 0))[0]? = some ⟨0, 5, 0, 0⟩ ∧
      (u.clk + 34#32).toNat = 8118 ∧ (8118 - (u.clkOrigin.toNat : Int) - u.cfg.spriteFetchCycle) % u.cfg.cpl = 0 := by
  decide +kernel

/-- SNAPSHOT_WRITE where no alarm is due. -/
theorem snapshotWrite_quiet {w : State} (h : w.clk.toNat < min w.fetchClk.toNat (min w.drawClk.toNat w.rasterIrqClk.toNat)) :
    exec .eventSnapshotWrite w =
      .next { w with snapshotOut := some { version := w.cfg.snapshotVersion, body := w.body } } := by
  show answer (snapshotWrite w) = _
  have e : advance w = .ok w := by
    unfold advance
    rw [serviceFuel_eq, advanceLoop_succ]
    exact if_pos (.inr h)
  rw [snapshotWrite, e]
  rfl

/-- A state before the tuple of sprite 0, at cycle 20 of line 0x80. -/
def spriteWriter : State :=
  { at_ 0x80 20 with fetchIdx := .fetchSprite, newSpriteDmaMask := 1, spriteFetchMsk := 1, fetchClk := 8118 }

/-- One instance writes at cycle 20 of line 0x80, outside FETCH_SPRITE and in it; another at the same position loads. -/
theorem witness_SnapshotRoundTrip :
    ∀ w ∈ [at_ 0x80 20, spriteWriter],
    let p : Snapshot := { version := w.cfg.snapshotVersion, body := w.body }
    let s := { w with snapshotOut := some p }
    let u := { w with regs := w.regs.set 0 1, operands := { HostOperands.zero with version := p.version, body := p.body } }
    exec .eventSnapshotWrite w = .next s ∧ s.snapshotOut = some p ∧ RangesOk s ∧
      (s.fetchIdx = .fetchSprite → ∃ tup, (u.cfg.fetchList s.newSpriteDmaMask)[0]? = some tup ∧
        u.clk + (s.fetchClk - s.clk) = 8118 ∧
        (8118 : Clock) - BitVec.ofInt 32 ((8118 - (u.clkOrigin.toNat : Int) - u.cfg.spriteFetchCycle) % u.cfg.cpl) +
          BitVec.ofInt 32 tup.cycle = 8118) ∧
      u.cfg = s.cfg ∧ u.cycleNow = s.cycleNow ∧ u.lineNow = s.lineNow ∧ u.operands.version = p.version ∧
      u.operands.body = p.body := by
  refine List.forall_mem_cons.2 ⟨?_, List.forall_mem_singleton.2 ?_⟩
  · exact ⟨snapshotWrite_quiet (by decide +kernel), rfl, by decide +kernel,
      fun h => absurd h (show (at_ 0x80 20).fetchIdx ≠ .fetchSprite by decide +kernel), rfl, rfl, rfl, rfl, rfl⟩
  · exact ⟨snapshotWrite_quiet (by decide +kernel), rfl, by decide +kernel,
      fun _ => ⟨⟨0, 5, 0, 0⟩, by decide +kernel, by decide +kernel, by decide +kernel⟩, rfl, rfl, rfl, rfl, rfl⟩

/-- A flush that serves an alarm, one that ends in a fault, a quiet state; the highest and lowest bank, the bits just below. -/
theorem witness_BankingTakesEffectOrIsRefused : State.reset.quiet 0 = true ∧
    (∃ s1, flush 0 { State.reset with clk := 11 } = .ok s1) ∧ (∃ e, flush 0 badFetchState = .error e) ∧
    (0xC000#16 &&& 0x3FFF#16 = 0 ∧ 0x0000#16 &&& 0x3FFF#16 = 0 ∧ 0x2000#16 &&& 0x3FFF#16 ≠ 0 ∧ 0xC001#16 &&& 0x3FFF#16 ≠ 0) :=
  ⟨by decide +kernel, ok_of_flushes (by decide +kernel), error_of_not_flushes (by decide +kernel), by decide⟩

theorem witness_VideoRamStoreStoresOneByte :
    (∃ s1, flush 0 { withOperands { HostOperands.zero with space := .colorRam } with clk := 63 } = .ok s1) ∧
      (∃ s1, flush 0 { withOperands HostOperands.zero with clk := 11 } = .ok s1) ∧ State.reset.quiet 0 = true :=
  ⟨ok_of_flushes (by decide +kernel), ok_of_flushes (by decide +kernel), by decide +kernel⟩

/-- A byte that each memory holds, at both ends of its addresses; the windows of the default configuration. -/
theorem witness_MemoryReadsWhatWasStored :
    let s := State.reset.changeMemory [.ram 0xFFFFFFFF 0x12, .ram 0 0x34, .chargen 0xFFF 0x56, .romh 0 0x78]
    Memory.lookup s.ram 0xFFFFFFFF = some 0x12#8 ∧ Memory.lookup s.ram 0 = some 0x34#8 ∧
      Memory.lookup s.chargen 0xFFF = some 0x56#8 ∧ Memory.lookup s.romh 0 = some 0x78#8 ∧
      [0x1000#16, 0x9FFF].all (inChargenWindow s.cfg.toConfig) = true ∧
      [0x0FFF#16, 0x2000].any (inChargenWindow s.cfg.toConfig) = false := by decide +kernel

/-- A state that meets every invariant and has a draw alarm to do. -/
def drawStep : State := State.reset.withFetchWord 18 0x30300

theorem drawStep_next : ∃ t, step drawStep = .next t := next_of_answers (by decide +kernel)

theorem witness_StepKeepsMemoriesCanonical : MemoriesOk drawStep ∧ ∃ t, step drawStep = .next t :=
  ⟨by decide +kernel, drawStep_next⟩

theorem witness_StepKeepsRanges : RangesOk drawStep ∧ FetchIndexOk drawStep ∧ ∃ t, step drawStep = .next t :=
  ⟨by decide +kernel, by decide +kernel, drawStep_next⟩

theorem witness_StepKeepsDerivedRegisters : DerivedOk drawStep ∧ ∃ t, step drawStep = .next t :=
  ⟨by decide +kernel, drawStep_next⟩

theorem witness_StepKeepsRendererTargets : TargetsOk drawStep ∧ ∃ t, step drawStep = .next t :=
  ⟨by decide +kernel, drawStep_next⟩

theorem witness_StepKeepsDeliveriesComplete : RangesOk drawStep ∧ DeliveriesOk drawStep ∧ ∃ t, step drawStep = .next t :=
  ⟨by decide +kernel, by decide +kernel, drawStep_next⟩

/-- The operands of FETCH_MATRIX at both ends of the range. -/
theorem witness_NoAssertFailWithinRange : FetchIndexOk State.reset ∧
    operandsInRange .eventFetchMatrix (withOperands { HostOperands.zero with offset := 0, count := 40 }) ∧
    operandsInRange .eventFetchMatrix (withOperands { HostOperands.zero with offset := 40, count := 0 }) := by
  refine ⟨by decide +kernel, ⟨by decide +kernel, by decide +kernel, ?_⟩, ⟨by decide +kernel, by decide +kernel, ?_⟩⟩ <;>
    exact fun h => nomatch h

theorem witness_OnlyTheNamedOperationsWrite : ∃ t, exec (.write20 0 0x05) State.reset = .next t :=
  next_of_answers (by decide +kernel)

end Sys2Proof.Tests
end

/-! PROOFS. Memory (20_memory.md): what a store leaves in a memory, and VIDEO_RAM_STORE as that store after its flush. -/

namespace Sys2Proof.Machine

/-! Reading after a store. -/

/-- The byte just stored is found first, and a store passes every other address by, whether or not the memory is in its
canonical form. -/
theorem lookup_store (m : Memory) (a b : Nat) (v : Byte) :
    Memory.lookup (Memory.store m a v) b = if b = a then some v else Memory.lookup m b := by
  induction m with
  | nil => simp [Memory.store, Memory.lookup, eq_comm]
  | cons c rest ih =>
    obtain ⟨k, w⟩ := c
    rw [Memory.store]
    split
    case isTrue => simp [Memory.lookup, eq_comm]
    case isFalse =>
      split
      case isTrue hak =>
        subst hak
        by_cases hba : b = a
        · simp [Memory.lookup, hba]
        · simp [Memory.lookup, hba, Ne.symm hba]
      case isFalse hak =>
        rw [Memory.lookup, ih, Memory.lookup]
        by_cases hkb : k = b
        · simp [hkb, show b ≠ a by omega]
        · simp [hkb]

theorem colorByte_storeColor (s : State) (a b : BitVec 10) (v : Byte) :
    (s.storeColor a v).colorByte b = if b = a then v else s.colorByte b := by
  simp only [State.colorByte, storeColor_colorRam, lookup_store, BitVec.toNat_inj]
  split <;> rfl

theorem ramByte_storeRam (s : State) (a : Addr) (v : Byte) (b : Nat) :
    (s.storeRam a v).ramByte b = if b = s.ramAddress a then v else s.ramByte b := by
  simp only [State.ramByte, storeRam_ram, storeRam_memoryTime, lookup_store]
  split <;> rfl

/-! VIDEO_RAM_STORE. -/

/-- When its flush ends, an operation that begins with the flush answers what follows on the state the flush left. -/
theorem afterFlush_of_ok {f : State → Except Fault State} {s s1 : State} (h : flush 0 s = .ok s1) :
    afterFlush f s = answer (f s1) := by
  rw [afterFlush, h]; rfl

/-- VIDEO_RAM_STORE is its store on the state the flush left, with the operands that came with the operation. -/
theorem exec_eventVideoRamStore_of_flush {s s1 : State} (h : flush 0 s = .ok s1) :
    exec .eventVideoRamStore s = .next (videoRamStore s.operands.space s.operands.addr s.operands.value s1) :=
  afterFlush_of_ok h

/-- Settles O51: the store is `storeColor` or `storeRam` on the state the flush left, and each writes one byte. -/
theorem videoRamStoreStoresOneByte : Obligations.VideoRamStoreStoresOneByte := by
  refine ⟨fun s s1 hflush hspace => ?colour, fun s s1 hflush hspace => ?ram, fun s hquiet => ?quiet⟩
  case colour =>
    refine ⟨s1.storeColor (s.operands.addr.setWidth 10) s.operands.value, ?_, rfl, fun a => ?_⟩
    · rw [exec_eventVideoRamStore_of_flush hflush, hspace, videoRamStore, BitVec.setWidth_eq_extractLsb' (by decide)]
    · exact colorByte_storeColor ..
  case ram =>
    refine ⟨s1.storeRam s.operands.addr s.operands.value, ?_, rfl, fun a => ?_⟩
    · rw [exec_eventVideoRamStore_of_flush hflush, hspace, videoRamStore]
    · exact ramByte_storeRam ..
  case quiet =>
    have hflush := flush_of_quiet hquiet
    exact ⟨hflush, _, exec_eventVideoRamStore_of_flush hflush⟩

end Sys2Proof.Machine

/-! PROOFS. The decoder (30_encoding.md R61, R63, R67): its answer for each kind of word, and which words it refuses. -/

namespace Sys2Proof.Machine

/-! The answer for each kind of word. -/

theorem op_cases (f : WordFields) : f.op = 0#2 ∨ f.op = 1#2 ∨ f.op = 2#2 ∨ f.op = 3#2 := by
  generalize f.op = op
  revert op
  decide

/-- Every WRITE word is an operation, whatever its operands (30_encoding.md R61). -/
theorem decodeFields_of_write {f : WordFields} (hop : f.op = 1#2) :
    decodeFields f = .ok (tableAt (writeTable f.wc f.value) (writeTable_length f.wc f.value) f.addr) :=
  if_pos hop

theorem decodeFields_of_nonZero {f : WordFields} (hop : f.op ≠ 1#2) (hf : f.wc ≠ 0#2 ∨ f.value ≠ 0#8) :
    decodeFields f = .error .nonZeroField := by
  rw [decodeFields, if_neg hop, if_pos hf]

theorem decodeFields_of_read {f : WordFields} (hop : f.op = 0#2) (hf : ¬(f.wc ≠ 0#2 ∨ f.value ≠ 0#8)) :
    decodeFields f = .ok (tableAt readTable readTable_length f.addr) := by
  rw [decodeFields, if_neg (by rw [hop]; decide), if_neg hf, if_pos hop]

theorem decodeFields_of_peek {f : WordFields} (hop : f.op = 2#2) (hf : ¬(f.wc ≠ 0#2 ∨ f.value ≠ 0#8)) :
    decodeFields f = .ok (tableAt peekTable peekTable_length f.addr) := by
  rw [decodeFields, if_neg (by rw [hop]; decide), if_neg hf, if_neg (by rw [hop]; decide), if_pos hop]

/-- The table of events ends at 0x11, so the numbers from 0x12 on are the reserved ones (30_encoding.md R63). -/
theorem decodeFields_of_event {f : WordFields} (hop : f.op = 3#2) (hf : ¬(f.wc ≠ 0#2 ∨ f.value ≠ 0#8)) :
    decodeFields f =
      if h : f.addr.toNat < eventTable.length then .ok eventTable[f.addr.toNat] else .error (.reservedEvent f.addr) := by
  rw [decodeFields, if_neg (by rw [hop]; decide), if_neg hf, if_neg (by rw [hop]; decide), if_neg (by rw [hop]; decide)]
  split_ifs with h
  · rw [List.getElem?_eq_getElem h]
  · rw [List.getElem?_eq_none (not_lt.1 h)]

/-! The refused words. -/

/-- Exactly which fields are refused, and for which reason (30_encoding.md R67). -/
theorem decodeFields_eq_error_iff (f : WordFields) (e : DecodeError) :
    decodeFields f = .error e ↔
      (f.op ≠ 1#2 ∧ (f.wc ≠ 0#2 ∨ f.value ≠ 0#8) ∧ e = .nonZeroField) ∨
        (f.op = 3#2 ∧ ¬(f.wc ≠ 0#2 ∨ f.value ≠ 0#8) ∧ 0x12 ≤ f.addr.toNat ∧ e = .reservedEvent f.addr) := by
  by_cases hf : f.wc ≠ 0#2 ∨ f.value ≠ 0#8
  case pos =>
    by_cases hop : f.op = 1#2
    · simp [decodeFields_of_write hop, hop]
    · simp [decodeFields_of_nonZero hop hf, hop, hf, eq_comm (a := e)]
  case neg =>
    obtain hop | hop | hop | hop := op_cases f
    · simp [decodeFields_of_read hop hf, hf, hop]
    · simp [decodeFields_of_write hop, hop]
    · simp [decodeFields_of_peek hop hf, hf, hop]
    · have hlen : eventTable.length = 0x12 := rfl
      simp only [decodeFields_of_event hop hf, hop, hf, hlen]
      split_ifs with h
      · simp [h]
      · simp [Nat.not_lt.1 h, eq_comm]

/-- A refused word stays refused, for the same reason, at whatever address its register lives: the register map moves no
EVENT word, and changes neither `op` nor `wc` of any word, nor the byte of a READ or PEEK (30_encoding.md R64). -/
theorem decode_busWord_of_error {s : State} {w : BusWord} {e : DecodeError} (h : decode w = .error e) :
    decode (s.busWord w) = .error e := by
  rw [decode, splitWord_busWord]
  split_ifs with hevent
  case pos => exact h
  case pos hwrite => rw [decode, decodeFields_of_write hwrite] at h; cases h
  case neg hwrite =>
    rw [decode, decodeFields_eq_error_iff] at h
    rw [decodeFields_eq_error_iff]
    obtain hfield | ⟨hop, _⟩ := h
    · exact .inl hfield
    · exact absurd hop hevent

/-- A step on a word that the handlers see as a reserved one performs nothing. -/
theorem step_of_decode_error {s : State} {r : Request} {rest : List Request} {e : DecodeError}
    (hinbox : s.inbox = r :: rest) (h : decode (s.busWord r.word) = .error e) : step s = .refused (.reservedWord e) := by
  rw [step, hinbox]
  show presented _ (runDecoded _ _) = _
  rw [h]; rfl

/-- Settles O3: the reasons of `decodeFields_eq_error_iff` together are R67's set, and the register map keeps a word in
it. -/
theorem reservedWordsAreRefused : Obligations.ReservedWordsAreRefused := by
  refine ⟨fun w => ⟨?refusedIsReserved, ?reservedIsRefused⟩, fun s r rest e hinbox hword => ?refusedStep⟩
  case refusedIsReserved =>
    rintro ⟨e, h⟩
    obtain ⟨hop, hf, _⟩ | ⟨hop, _, haddr, _⟩ := (decodeFields_eq_error_iff _ e).1 h
    · exact .inl ⟨hop, hf⟩
    · exact .inr ⟨hop, haddr⟩
  case reservedIsRefused =>
    rintro (⟨hop, hf⟩ | ⟨hop, haddr⟩)
    · exact ⟨_, decodeFields_of_nonZero hop hf⟩
    · by_cases hf : (splitWord w).wc ≠ 0#2 ∨ (splitWord w).value ≠ 0#8
      · exact ⟨_, decodeFields_of_nonZero (by rw [hop]; decide) hf⟩
      · exact ⟨_, (decodeFields_eq_error_iff _ _).2 (.inr ⟨hop, hf, haddr, rfl⟩)⟩
  case refusedStep => exact step_of_decode_error hinbox (decode_busWord_of_error hword)

end Sys2Proof.Machine

/-! PROOFS. The register file (40_register_file.md R80 to R111): an operation on a register is its flush and then one
total function of the state the flush left, and what that function is for each kind of address. -/

namespace Sys2Proof.Machine

/-! The flush comes first. -/

/-- What `FlushedResult` says of an operation follows from the one equation that gives its answer. -/
theorem flushedResult_of_answer {wc : Nat} {i : Instr} {f : State → State}
    (h : ∀ s, exec i s = answer ((flush wc s).map f)) : FlushedResult wc i f := by
  refine ⟨fun s s1 hflush => ?_, fun s e hflush => ?_, fun s hquiet => ?_⟩
  · rw [h, hflush]; rfl
  · rw [h, hflush]; rfl
  · rw [h, flush_of_quiet hquiet]; rfl

theorem flushedResult_of_readWith {i : Instr} {value : State → Byte} {after : State → State}
    (h : exec i = readWith value after) : FlushedResult 0 i fun s => (after s).returnRead (value s) :=
  flushedResult_of_answer (congrFun h)

/-- The effect of a WRITE that cannot stop is its result after the flush. -/
theorem flushedResult_of_writeWith {wc : BitVec 2} {i : Instr} {effect : State → Except Fault State}
    {f : State → State} (h : exec i = writeWith wc effect) (heffect : ∀ s, effect s = .ok (f s)) :
    FlushedResult wc.toNat i f := by
  refine flushedResult_of_answer fun s => ?_
  rw [h, writeWith, funext heffect]
  rfl

/-! READ and PEEK. -/

theorem exec_of_mem_storedReads : ∀ p ∈ storedReads, exec p.1 = readWith (State.valueStored p.2) id :=
  List.map_inj_left.1 rfl

/-- Settles O6, from the one handler the 57 addresses share. -/
theorem readReturnsStoredByte : Obligations.ReadReturnsStoredByte :=
  fun p hp => flushedResult_of_readWith (exec_of_mem_storedReads p hp)

/-- READ and PEEK of one address give the same value of the state, and it is one that the fetch and the draw alarm have
no part in. -/
theorem exec_of_mem_readPeekPairs : ∀ p ∈ readPeekPairs, ∃ value after,
    exec p.1 = readWith value after ∧ exec p.2 = peekWith value ∧
      ∀ (s : State) (f d : Clock), value { s with fetchClk := f, drawClk := d } = value s := by
  intro p hp
  fin_cases hp <;> exact ⟨_, _, rfl, rfl, fun _ _ _ => rfl⟩

/-- With no fetch or draw alarm due a READ returns its value of the state itself. -/
theorem readWith_of_quiet {value : State → Byte} {after : State → State} {s : State} (h : s.quiet 0 = true) :
    readWith value after s = .next ((after s).returnRead (value s)) := by
  rw [readWith, flush_of_quiet h]; rfl

/-- Settles O9: the two alarms that a READ serves first are all that can set its value apart from that of the PEEK. -/
theorem peekHasNoSideEffect : Obligations.PeekHasNoSideEffect := by
  intro p hp s
  obtain ⟨value, after, hread, hpeek, halarms⟩ := exec_of_mem_readPeekPairs p hp
  rw [hread, hpeek]
  refine ⟨value s, rfl, fun hquiet => ?_, fun f d hquiet => ?_⟩
  · exact ⟨_, readWith_of_quiet hquiet, rfl, rfl⟩
  · exact ⟨_, readWith_of_quiet hquiet, halarms s f d, halarms s f d⟩

/-! WRITE of an address that stores nothing. -/

theorem exec_of_mem_ignoredWrites (wc : BitVec 2) (v : Byte) :
    ∀ i ∈ ignoredWrites wc v, exec i = writeWith wc writeNothing :=
  List.map_inj_left.1 rfl

/-- Settles O11, from the one handler these addresses share: after the flush, no effect. -/
theorem writeToNoRegisterIsIgnored : Obligations.WriteToNoRegisterIsIgnored :=
  fun wc v i hi => flushedResult_of_writeWith (exec_of_mem_ignoredWrites wc v i hi) fun _ => rfl

/-! WRITE of a register whose change is queued. -/

/-- Queueing under the condition that a value changes, the form in which the write handlers use it. -/
theorem addChangeIf_bne {α : Type} [DecidableEq α] (new old : α) (t : TargetValue) (s : State) :
    addChangeIf (new != old) t s =
      { s with changes := s.changes ++ if new = old then [] else [⟨s.triggerX s.clk, t⟩] } := by
  by_cases h : new = old <;> simp [addChangeIf_eq, h]

/-- A colour register's handler builds its target from the byte's low nibble, as `colourWrites` lists it. -/
theorem exec_of_mem_colourWrites (wc : BitVec 2) (v : Byte) :
    ∀ p ∈ colourWrites wc v, exec p.1 = writeWith wc (writeColour p.2.1 (fun _ => p.2.2) v) :=
  List.map_inj_left.1 rfl

/-- Settles O12, from the one handler the colour registers share. -/
theorem writeColourQueuesChange : Obligations.WriteColourQueuesChange := by
  intro wc v p hp
  refine flushedResult_of_writeWith (exec_of_mem_colourWrites wc v p hp) fun s => ?_
  rw [writeColour, addChangeIf_bne]
  rfl

/-- Settles O13: each change is queued behind those before it, on a state that differs in the queue only. -/
theorem writeControlRegister2 : Obligations.WriteControlRegister2 := by
  intro wc v
  refine flushedResult_of_writeWith (effect := writeCr2 v) rfl fun s => ?_
  simp only [writeCr2, addChangeIf_bne, List.append_assoc]
  rfl

/-! WRITE 17. -/

/-- Settles O14: a sprite crunches exactly when its new bit and its flip-flop are both 0. -/
theorem writeExpansionCrunches : Obligations.WriteExpansionCrunches := by
  intro wc v
  refine flushedResult_of_writeWith (effect := writeYxpand v) rfl fun s => ?_
  simp only [writeYxpand, crunches, spriteBit, Bool.and_eq_true, Bool.not_eq_true']
  rfl

/-! The interrupt registers. -/

/-- Settles O18: the effect is the acknowledge, which does not use the byte. -/
theorem writeAcknowledgesLastRead : Obligations.WriteAcknowledgesLastRead :=
  fun _ _ => flushedResult_of_writeWith (effect := writeVicirq) rfl fun _ => rfl

/-- Settles O19: the request is that of the mask just stored. -/
theorem writeMaskUpdatesRequest : Obligations.WriteMaskUpdatesRequest := by
  intro wc v
  refine flushedResult_of_writeWith (effect := writeIrqmask v) rfl fun s => ?_
  rw [writeIrqmask, updateIrqLine, reg_setReg, if_pos rfl]
  rfl

/-! WRITE 12. -/

/-- A compare line that does not exist disarms the raster alarm with a warning, and raises nothing
(40_register_file.md R96). -/
theorem updateRasterCompare_of_offScreen {s : State} {line : BitVec 16}
    (hline : compareLine (s.reg 0x11) (s.reg 0x12) = line) (hoff : s.cfg.screenHeight ≤ line.toNat) :
    updateRasterCompare s = { s with
      rasterIrqLine := line
      rasterIrqClk := s.cfg.clockMax
      log := s.log ++ [.rasterCompareOutOfRange line] } := by
  subst hline
  rw [updateRasterCompare, if_neg fun h => Nat.not_lt.2 hoff h.1, armRasterCompare, if_pos hoff]
  rfl

/-- The state with the raster alarm armed for the next start of `line` (40_register_file.md R96). -/
def State.armedFor (s : State) (line : BitVec 16) : State :=
  let start := later s.clkOrigin (line.toNat * s.cfg.cpl)
  { s with rasterIrqLine := line, rasterIrqClk := if start ≤ s.clk then later start s.cfg.frame else start }

/-- A compare line that exists arms the raster alarm, and raises `IRST` at once when it has newly become the line in
progress (40_register_file.md R96). -/
theorem updateRasterCompare_of_onScreen {s : State} {line : BitVec 16}
    (hline : compareLine (s.reg 0x11) (s.reg 0x12) = line) (hon : line.toNat < s.cfg.screenHeight) :
    updateRasterCompare s =
      if line ≠ s.rasterIrqLine ∧ line.toNat = s.lineNow then
        { s.armedFor line with
          irqStatus := s.irqStatus ||| 0x01#8
          irqLine := irqRequest (s.irqStatus ||| 0x01#8) (s.reg 0x1A) }
      else s.armedFor line := by
  subst hline
  have harm : armRasterCompare s = s.armedFor (compareLine (s.reg 0x11) (s.reg 0x12)) := by
    rw [armRasterCompare, if_neg (Nat.not_le.2 hon)]; rfl
  simp only [updateRasterCompare, hon, true_and, harm]
  rfl

/-- Settles O16: WRITE 12 is UPDATE_RASTER_COMPARE on the stored byte, for a line that exists or one that does not. -/
theorem writeRasterComparesLine : Obligations.WriteRasterComparesLine := by
  intro wc v
  refine flushedResult_of_writeWith (effect := writeRaster v) rfl fun s => congrArg Except.ok ?_
  have hline : compareLine ((s.setReg 0x12 v).reg 0x11) ((s.setReg 0x12 v).reg 0x12) = compareLine (s.reg 0x11) v := by
    rw [reg_setReg, reg_setReg, if_neg (by decide), if_pos rfl]
  have hmask : (s.setReg 0x12 v).reg 0x1A = s.reg 0x1A := by rw [reg_setReg, if_neg (by decide)]
  by_cases hoff : s.cfg.screenHeight ≤ (compareLine (s.reg 0x11) v).toNat
  case pos => exact (updateRasterCompare_of_offScreen hline hoff).trans (if_pos hoff).symm
  case neg =>
    rw [updateRasterCompare_of_onScreen hline (Nat.not_le.1 hoff), hmask]
    exact (if_neg hoff).symm

end Sys2Proof.Machine

/-! PROOFS. The scheduler (41_scheduler.md): the flush leaves nothing due (R144, R145), and the counters that the draw
alarm advances at the end of a line (R147 to R150). -/

namespace Sys2Proof.Machine

/-! The flush. -/

theorem quiet_iff {s : State} {wc : Nat} :
    s.quiet wc = true ↔ ¬s.dueAt wc s.fetchClk = true ∧ ¬s.dueAt wc s.drawClk = true := by
  simp only [State.quiet, Bool.and_eq_true, Bool.not_eq_true', Bool.not_eq_true]

/-- An alarm no later than one that is due is due as well. -/
theorem dueAt_of_le {s : State} {wc : Nat} {f g : Clock} (hle : g ≤ f) (hdue : s.dueAt wc f = true) :
    s.dueAt wc g = true := by
  simp only [State.dueAt, decide_eq_true_eq, BitVec.le_def] at *
  omega

/-- The loop ends only in a state where neither alarm is due (41_scheduler.md R144): a fetch alarm that is due but not
served lies after the draw alarm, which then is due as well. -/
theorem quiet_of_flushLoop_ok {n wc : Nat} {s t : State} (h : flushLoop n wc s = .ok t) : t.quiet wc = true := by
  induction n generalizing s with
  | zero => simp [flushLoop] at h
  | succ n ih =>
    rw [flushLoop_succ] at h
    split at h
    case isTrue =>
      obtain ⟨s1, -, h⟩ := bind_eq_ok.1 h
      exact ih h
    case isFalse hfetch =>
      split at h
      case isTrue => exact ih h
      case isFalse hdraw =>
        cases h
        refine quiet_iff.2 ⟨fun hdue => ?_, hdraw⟩
        rcases BitVec.le_total t.fetchClk t.drawClk with hle | hle
        · exact hfetch ⟨hdue, hle⟩
        · exact hdraw (dueAt_of_le hle hdue)

/-- Settles O20: a flush ends quiet, and in a quiet state a flush serves nothing. -/
theorem flushIsIdempotent : Obligations.FlushIsIdempotent := by
  refine fun wc s => ⟨flush_of_quiet, fun s1 hflush => ?_⟩
  have hquiet : s1.quiet wc = true := quiet_of_flushLoop_ok hflush
  exact ⟨hquiet, flush_of_quiet hquiet⟩

/-! The counters at the end of a line: each part of LINE_COUNTERS, and then the whole, as one update of the state. -/

theorem endCharacterRow_eq (s : State) :
    endCharacterRow s = { s with
      idleState := s.idleState || s.ycounter == 7#3
      memptr := if s.ycounter = 7#3 then s.memCounter else s.memptr } := by
  by_cases h : s.ycounter = 7#3
  case pos => simp [endCharacterRow, h]
  case neg => simp [endCharacterRow, h, beq_false_of_ne h]

theorem advanceRow_eq (s : State) :
    advanceRow s = { s with
      ycounter := if !s.idleState || s.badLine then s.ycounter + 1 else s.ycounter
      idleState := s.idleState && !(!s.idleState || s.badLine) } := by
  by_cases h : s.idleState = false ∨ s.badLine = true
  case pos =>
    have hcounts : (!s.idleState || s.badLine) = true := by simpa using h
    simp [advanceRow, h, hcounts]
  case neg =>
    have hcounts : (!s.idleState || s.badLine) = false := by simpa using h
    simp [advanceRow, h, hcounts]

theorem applyForcedDisplay_eq (s : State) :
    applyForcedDisplay s = { s with
      idleState := s.idleState && !s.forceDisplayState
      forceDisplayState := false } := by
  cases h : s.forceDisplayState
  case false =>
    rw [applyForcedDisplay, if_neg (by simp [h]), Bool.not_false, Bool.and_true, ← h]
  case true => simp [applyForcedDisplay, h]

/-- LINE_COUNTERS (41_scheduler.md R148, R149): the row's end is decided before the row advances, and the forced exit
comes last. -/
theorem lineCounters_eq (s : State) :
    lineCounters s =
      let advanced := if s.idleState then s.memCounter else s.memCounter + s.memCounterInc.setWidth 10
      let idle := s.idleState || s.ycounter == 7#3
      let counts := !idle || s.badLine
      { s with
        memCounter := advanced
        memCounterInc := 40#8
        memptr := if s.ycounter = 7#3 then advanced else s.memptr
        ycounter := if counts then s.ycounter + 1 else s.ycounter
        idleState := idle && !counts && !s.forceDisplayState
        forceDisplayState := false } := by
  rw [lineCounters, applyForcedDisplay_eq, advanceRow_eq, endCharacterRow_eq]
  rfl

/-- The end-of-frame bookkeeping where a condition calls for it (41_scheduler.md R147, R150). -/
theorem ite_vsync_eq (p : Prop) [Decidable p] (s : State) :
    (if p then vsync s else s) = { s with
      clkOrigin := if p then later s.clkOrigin s.cfg.frame else s.clkOrigin
      memptr := if p then 0 else s.memptr
      memCounter := if p then 0 else s.memCounter
      lightPen := if p then { s.lightPen with triggered := false } else s.lightPen } := by
  split <;> rfl

/-- The line that follows depends on neither the drawing nor the collisions (41_scheduler.md R147). -/
theorem collisionIrqs_drawLine_nextLine (s : State) : (collisionIrqs (drawLine s)).nextLine = s.nextLine := by
  simp [State.nextLine]

theorem drawAlarm_currentLine (s : State) : (drawAlarm s).currentLine = s.nextLine := by
  rw [drawAlarm, beginNextLine, ite_vsync_eq, lineCounters_eq]
  exact collisionIrqs_drawLine_nextLine s

/-- Settles O29: the counters are those of `lineCounters_eq` after the restart at the frame wrap, and the drawing and
the collisions before it leave them alone. -/
theorem drawAlarmCountsRows : Obligations.DrawAlarmCountsRows := by
  intro s
  refine ⟨drawAlarm s, rfl, ?_⟩
  rw [drawAlarm_currentLine]
  simp [drawAlarm, beginNextLine, ite_vsync_eq, lineCounters_eq, shiftSprites, collisionIrqs_drawLine_nextLine]

end Sys2Proof.Machine

/-! PROOFS. The bad-line evaluator (42_badline.md): the condition (R160), BADLINE_EVAL in each of its cases (R161), and
what each evaluation leaves of `allow_bad_lines`. -/

namespace Sys2Proof.Machine

/-! The condition. -/

theorem badLineCondition_iff (c : Config) (cr : Byte) (y : Nat) :
    badLineCondition c cr y = true ↔
      cr.getLsbD 4 = true ∧ (cr.extractLsb' 0 3).toNat = y % 8 ∧ c.firstDmaLine ≤ y ∧ y ≤ c.lastDmaLine := by
  have hsmooth : cr.extractLsb' 0 3 = BitVec.ofNat 3 y ↔ (cr.extractLsb' 0 3).toNat = y % 8 := by
    rw [← BitVec.toNat_inj, BitVec.toNat_ofNat]
  simp only [badLineCondition, Bool.and_eq_true, beq_iff_eq, decide_eq_true_eq, hsmooth, and_assoc]

/-! BADLINE_EVAL: no transition, a line that becomes bad by the region of its cycle, a line that becomes good. -/

theorem exec_eventBadlineEval (s : State) : exec .eventBadlineEval s =
    answer (badlineEval s.operands.oldCr s.operands.newCr s.operands.line s.operands.cycle s) := rfl

section
variable {old new : Byte} {y : Nat} {s : State}

theorem badlineEval_of_same (c : Nat)
    (h : badLineCondition s.cfg.toConfig old y = badLineCondition s.cfg.toConfig new y) :
    badlineEval old new y c s = .ok { s with allowBadLines := new.getLsbD 4 } :=
  if_pos h

theorem badlineEval_of_becomesBad (c : Nat) (hold : badLineCondition s.cfg.toConfig old y = false)
    (hnew : badLineCondition s.cfg.toConfig new y = true) :
    badlineEval old new y c s = lineBecomesBad c { s with allowBadLines := new.getLsbD 4 } := by
  simp [badlineEval, hold, hnew]

theorem badlineEval_of_becomesGood (c : Nat) (hold : badLineCondition s.cfg.toConfig old y = true)
    (hnew : badLineCondition s.cfg.toConfig new y = false) :
    badlineEval old new y c s = .ok (lineBecomesGood c { s with allowBadLines := new.getLsbD 4 }) := by
  simp [badlineEval, hold, hnew]

end

theorem lineBecomesBad_beforeWindow {c : Nat} {s : State} (h : c < s.window0) :
    lineBecomesBad c s = .ok { s with badLine := true } :=
  if_pos h

theorem lineBecomesBad_inWindow {c : Nat} {s : State} (h0 : s.window0 ≤ c) (h1 : c < s.window1) :
    lineBecomesBad c s = becomesBadInWindow c s := by
  rw [lineBecomesBad, if_neg (Nat.not_lt.2 h0), if_pos h1]

theorem window0_le_window1 (s : State) : s.window0 ≤ s.window1 := by
  simp only [State.window0, State.window1]
  omega

theorem lineBecomesBad_afterWindow {c : Nat} {s : State} (h : s.window1 ≤ c) :
    lineBecomesBad c s = .ok { s with
      badLine := true
      memCounterInc := if s.idleState then 0 else s.memCounterInc
      forceDisplayState := true } := by
  have h0 : s.window0 ≤ c := (window0_le_window1 s).trans h
  rw [lineBecomesBad, if_neg (Nat.not_lt.2 h0), if_neg (Nat.not_lt.2 h)]

/-- Settles O34: the cases of BADLINE_EVAL and of LINE_BECOMES_BAD that neither fetch nor steal. -/
theorem badlineEvalOutsideTheWindow : Obligations.BadlineEvalOutsideTheWindow := by
  intro s
  simp only [exec_eventBadlineEval, answer_eq_next]
  refine ⟨fun hsame => ?same, fun hold hnew hc => ?before, fun hold hnew hc => ?after, fun hold hnew => ?good⟩
  case same => exact badlineEval_of_same _ hsame
  case before => exact (badlineEval_of_becomesBad _ hold hnew).trans (lineBecomesBad_beforeWindow hc)
  case after => exact (badlineEval_of_becomesBad _ hold hnew).trans (lineBecomesBad_afterWindow hc)
  case good => exact badlineEval_of_becomesGood _ hold hnew

/-! `allow_bad_lines`: set by each evaluation, and kept by whatever the evaluation then does. -/

theorem becomesBadInWindow_allowBadLines {c : Nat} {s t : State} (h : becomesBadInWindow c s = .ok t) :
    t.allowBadLines = s.allowBadLines := by
  obtain ⟨s2, hsteal, h⟩ := bind_eq_ok.1 h
  have hs2 : s2.allowBadLines = s.allowBadLines := by
    obtain ⟨_, rfl⟩ := steal_ok hsteal
    rfl
  split at h
  case isTrue =>
    obtain ⟨s4, hfetch, h⟩ := bind_eq_ok.1 h
    obtain ⟨_, _, _, rfl⟩ := fetchMatrix_ok hfetch
    cases h
    exact hs2
  case isFalse =>
    cases h
    exact hs2

theorem lineBecomesBad_allowBadLines {c : Nat} {s t : State} (h : lineBecomesBad c s = .ok t) :
    t.allowBadLines = s.allowBadLines := by
  obtain hbefore | hfrom := Nat.lt_or_ge c s.window0
  · rw [lineBecomesBad_beforeWindow hbefore] at h
    cases h; rfl
  · obtain hin | hafter := Nat.lt_or_ge c s.window1
    · rw [lineBecomesBad_inWindow hfrom hin] at h
      exact becomesBadInWindow_allowBadLines h
    · rw [lineBecomesBad_afterWindow hafter] at h
      cases h; rfl

theorem badlineEval_allowBadLines {old new : Byte} {y c : Nat} {s t : State} (h : badlineEval old new y c s = .ok t) :
    t.allowBadLines = new.getLsbD 4 := by
  cases hold : badLineCondition s.cfg.toConfig old y <;> cases hnew : badLineCondition s.cfg.toConfig new y
  case false.true =>
    rw [badlineEval_of_becomesBad c hold hnew] at h
    exact lineBecomesBad_allowBadLines h
  case true.false =>
    rw [badlineEval_of_becomesGood c hold hnew] at h
    cases h; rfl
  all_goals
    rw [badlineEval_of_same c (hold.trans hnew.symm)] at h
    cases h; rfl

theorem badlineAtFetch_allowBadLines {c : Clock} {s t : State} (h : badlineAtFetch c s = .ok t) :
    t.allowBadLines = (s.reg 0x11).getLsbD 4 := by
  rw [badlineAtFetch] at h
  split at h
  case isTrue =>
    obtain ⟨s2, hfetch, hsteal⟩ := bind_eq_ok.1 h
    obtain ⟨_, rfl⟩ := steal_ok hsteal
    obtain ⟨_, _, _, rfl⟩ := fetchMatrix_ok hfetch
    rfl
  case isFalse => cases h; rfl

theorem exec_eventFetchAlarm_of_fetchMatrix {s : State} (h : s.fetchIdx = .fetchMatrix) :
    exec .eventFetchAlarm s = answer (fetchAlarmMatrix s) := by
  show answer (fetchAlarm s) = _
  rw [fetchAlarm, h]

/-- Settles O33: the condition is `badLineCondition_iff`, and both evaluators set the flag before all else they do. -/
theorem badLineConditionIsTheRule : Obligations.BadLineConditionIsTheRule := by
  refine ⟨badLineCondition_iff, fun s t hexec => ?byEval, fun s t hidx hexec => ?byFetchAlarm⟩
  case byEval => exact badlineEval_allowBadLines (answer_eq_next.1 hexec)
  case byFetchAlarm =>
    rw [exec_eventFetchAlarm_of_fetchMatrix hidx, answer_eq_next] at hexec
    obtain ⟨s1, hfetch, rfl⟩ := map_eq_ok.1 hexec
    show s1.allowBadLines = _
    exact badlineAtFetch_allowBadLines hfetch

end Sys2Proof.Machine

/-! PROOFS. The fetch units (43_fetch.md): FETCH_MATRIX as a copy of columns (R175, R176), and CHECK_SPRITE_DMA sprite by
sprite (R180 to R182). -/

namespace Sys2Proof.Machine

/-! FETCH_MATRIX. -/

theorem exec_eventFetchMatrix (s : State) :
    exec .eventFetchMatrix s = answer (fetchMatrix s.operands.offset s.operands.count s) := rfl

/-- A position of the video matrix counter is the sum modulo 1024 (43_fetch.md R176). -/
theorem add_ofNat_eq_ofNat_mod (p : BitVec 10) (c : Nat) :
    p + BitVec.ofNat 10 c = BitVec.ofNat 10 ((p.toNat + c) % 1024) := by
  apply BitVec.eq_of_toNat_eq
  simp

/-- A matrix position in range is the offset of its byte from the screen base (43_fetch.md R175). -/
theorem matrixByte_ofNat_mod (s : State) (n : Nat) :
    s.matrixByte (BitVec.ofNat 10 (n % 1024)) = s.phi1Read (s.screenAddr + BitVec.ofNat 16 (n % 1024)) := by
  have hpos : n % 1024 < 2 ^ 10 := Nat.mod_lt _ (by decide)
  rw [State.matrixByte, BitVec.setWidth_ofNat_of_le_of_lt (by decide) hpos]

/-- A copy of columns, its matrix and colour RAM positions written out (43_fetch.md R175, R176). -/
theorem fetchColumns_eq (offset count : Nat) (s : State) :
    fetchColumns offset count s = { s with
      vbuf := Vector.ofFn fun c : Fin 40 =>
        if offset ≤ c.val ∧ c.val < offset + count then
          s.phi1Read (s.screenAddr + BitVec.ofNat 16 ((s.memCounter.toNat + c.val) % 1024))
        else s.vbuf[c]
      cbuf := Vector.ofFn fun c : Fin 40 =>
        if offset ≤ c.val ∧ c.val < offset + count then
          s.colorByte (BitVec.ofNat 10 ((s.memCounter.toNat + c.val) % 1024))
        else s.cbuf[c]
      backgroundColorSource :=
        if 0 < count then
          s.phi1Read (s.screenAddr + BitVec.ofNat 16 ((s.memCounter.toNat + (offset + count - 1)) % 1024))
        else s.backgroundColorSource } := by
  simp only [fetchColumns, add_ofNat_eq_ofNat_mod, matrixByte_ofNat_mod]

theorem fetchMatrix_of_outOfRange {offset count : Int} (s : State) (h : offset < 0 ∨ count < 0 ∨ 40 < offset + count) :
    fetchMatrix offset count s = .error (.assertFail .fetchMatrixRange) := by
  have hcols : (textCols : Int) = 40 := rfl
  exact if_neg (by omega)

/-- Settles O36: in range the answer is the copy of columns that `fetchColumns_eq` writes out. -/
theorem fetchMatrixCopiesColumns : Obligations.FetchMatrixCopiesColumns := by
  refine fun s offset count => ⟨fun hoffset hcount hrange => ?copies, fun hrange => ?stops⟩
  case copies =>
    rw [exec_eventFetchMatrix, hoffset, hcount, fetchMatrix_ofNat offset count s hrange, fetchColumns_eq]
    rfl
  case stops => rw [exec_eventFetchMatrix, fetchMatrix_of_outOfRange s hrange, answer_eq_fault]

/-! CHECK_SPRITE_DMA, for a sprite whose DMA is active, one that starts, and any other. -/

section
variable {s : State} {i : SpriteNo}

theorem spriteStarts_iff : s.spriteStarts i = true ↔
    (s.reg 0x15).getLsbD i.val = true ∧ s.spriteY i = s.currentLine.setWidth 8 := by
  rw [State.spriteStarts, Bool.and_eq_true, beq_iff_eq, BitVec.setWidth_eq_extractLsb' (by decide)]
  rfl

theorem checkSpriteDma_newSpriteDmaMask_bit : (checkSpriteDma s).newSpriteDmaMask.getLsbD i.val =
    if s.spriteDmaActive i then (spriteDmaAdvance (s.spriteYExpanded i) s.sprites[i]).memptr != 63#6
    else s.spriteStarts i :=
  spriteBit_maskOf _ i

theorem checkSpriteDma_sprites_getElem : (checkSpriteDma s).sprites[i] =
    if s.spriteDmaActive i then spriteDmaAdvance (s.spriteYExpanded i) s.sprites[i]
    else if s.spriteStarts i then spriteDmaOn (s.spriteYExpanded i) s.sprites[i]
    else s.sprites[i] :=
  Vector.getElem_ofFn _

/-- An active sprite advances, and its DMA goes on unless its pointer reaches 63 (43_fetch.md R180, R182). -/
theorem checkSpriteDma_of_active (h : s.spriteDmaActive i = true) :
    (checkSpriteDma s).sprites[i] = spriteDmaAdvance (s.spriteYExpanded i) s.sprites[i] ∧
      ((checkSpriteDma s).newSpriteDmaMask.getLsbD i.val = true ↔ s.sprites[i].memptr + s.sprites[i].memptrInc ≠ 63) := by
  rw [checkSpriteDma_sprites_getElem, checkSpriteDma_newSpriteDmaMask_bit, if_pos h, if_pos h, bne_iff_ne]
  exact ⟨rfl, Iff.rfl⟩

/-- A sprite that is enabled on its line is switched on (43_fetch.md R180, R181). -/
theorem checkSpriteDma_of_starts (h : s.spriteDmaActive i = false) (hstarts : s.spriteStarts i = true) :
    (checkSpriteDma s).sprites[i] = spriteDmaOn (s.spriteYExpanded i) s.sprites[i] ∧
      (checkSpriteDma s).newSpriteDmaMask.getLsbD i.val = true := by
  rw [checkSpriteDma_sprites_getElem, checkSpriteDma_newSpriteDmaMask_bit, h, hstarts]
  exact ⟨rfl, rfl⟩

theorem checkSpriteDma_of_idle (h : s.spriteDmaActive i = false) (hstarts : s.spriteStarts i = false) :
    (checkSpriteDma s).sprites[i] = s.sprites[i] ∧ (checkSpriteDma s).newSpriteDmaMask.getLsbD i.val = false := by
  rw [checkSpriteDma_sprites_getElem, checkSpriteDma_newSpriteDmaMask_bit, h, hstarts]
  exact ⟨rfl, rfl⟩

end

/-- The increment of a sprite that is switched on, by its expansion bit (43_fetch.md R181). -/
theorem rowIncrement_not (expanded : Bool) : rowIncrement (!expanded) = if expanded then 0 else 3 := by
  cases expanded <;> rfl

/-- Settles O37: the three cases of a sprite, each by what `checkSpriteDma` does of it. -/
theorem checkSpriteDmaPerSprite : Obligations.CheckSpriteDmaPerSprite := by
  refine fun s => ⟨checkSpriteDma s, rfl, rfl, fun i => ⟨?active, fun hinactive hstarts => ?starts,
    fun hinactive hstarts => ?idle⟩⟩
  case active => exact checkSpriteDma_of_active
  case starts =>
    rw [← rowIncrement_not]
    exact checkSpriteDma_of_starts hinactive (spriteStarts_iff.2 hstarts)
  case idle =>
    rw [← spriteStarts_iff, Bool.not_eq_true] at hstarts
    exact checkSpriteDma_of_idle hinactive hstarts

end Sys2Proof.Machine

/-! PROOFS. The raster cache (44_renderer.md R207, R208): no operation's answer depends on what the cache holds. -/

namespace Sys2Proof.Machine

/-! The fields that erasing the cache leaves alone, where a case is decided by one; proved by
`(rfl)`, not `rfl`, so that `simp` rewrites an `if` together with its decision procedure. -/

section
variable (s : State)

@[simp] theorem eraseCache_cfg : s.eraseCache.cfg = s.cfg := (rfl)
@[simp] theorem eraseCache_clk : s.eraseCache.clk = s.clk := (rfl)
@[simp] theorem eraseCache_fetchClk : s.eraseCache.fetchClk = s.fetchClk := (rfl)
@[simp] theorem eraseCache_drawClk : s.eraseCache.drawClk = s.drawClk := (rfl)
@[simp] theorem eraseCache_rasterIrqClk : s.eraseCache.rasterIrqClk = s.rasterIrqClk := (rfl)
@[simp] theorem eraseCache_fetchIdx : s.eraseCache.fetchIdx = s.fetchIdx := (rfl)
@[simp] theorem eraseCache_spriteFetchMsk : s.eraseCache.spriteFetchMsk = s.spriteFetchMsk := (rfl)
@[simp] theorem eraseCache_spriteFetchIdx : s.eraseCache.spriteFetchIdx = s.spriteFetchIdx := (rfl)
@[simp] theorem eraseCache_newSpriteDmaMask : s.eraseCache.newSpriteDmaMask = s.newSpriteDmaMask := (rfl)
@[simp] theorem eraseCache_spriteSpriteCollisions :
    s.eraseCache.spriteSpriteCollisions = s.spriteSpriteCollisions := (rfl)
@[simp] theorem eraseCache_spriteBackgroundCollisions :
    s.eraseCache.spriteBackgroundCollisions = s.spriteBackgroundCollisions := (rfl)
@[simp] theorem eraseCache_operands : s.eraseCache.operands = s.operands := (rfl)
@[simp] theorem eraseCache_eraseCache : s.eraseCache.eraseCache = s.eraseCache := (rfl)

/-- Whether an alarm is due does not depend on the cache. -/
@[simp] theorem eraseCache_dueAt (wc : Nat) (f : Clock) : s.eraseCache.dueAt wc f = s.dueAt wc f := (rfl)

end

/-! Functions of the state that the cache has no part in. -/

/-- On two states that differ only in the cache, `f` stops with the same fault or leaves two such states again. -/
def CacheBlind (f : State → Except Fault State) : Prop :=
  ∀ s, (f s.eraseCache).map State.eraseCache = (f s).map State.eraseCache

/-- A function that ignores the cache answers any two states that differ only there alike. -/
theorem CacheBlind.alike {f : State → Except Fault State} {a b : State} (hf : CacheBlind f)
    (h : a.eraseCache = b.eraseCache) : (f a).map State.eraseCache = (f b).map State.eraseCache := by
  rw [← hf a, ← hf b, h]

/-- The sequencing step: answers alike up to the cache stay so through whatever ignores it. -/
theorem CacheBlind.bind_alike {x y : Except Fault State} {f : State → Except Fault State} (hf : CacheBlind f)
    (h : x.map State.eraseCache = y.map State.eraseCache) :
    (x.bind f).map State.eraseCache = (y.bind f).map State.eraseCache := by
  cases x <;> cases y <;> simp only [Except.map, Except.error.injEq, Except.ok.injEq, reduceCtorEq] at h
  case error.error => rw [h]
  case ok.ok => exact hf.alike h

theorem cacheBlind_ok {f : State → State} (h : ∀ s, (f s.eraseCache).eraseCache = (f s).eraseCache) :
    CacheBlind fun s => .ok (f s) :=
  fun s => congrArg Except.ok (h s)

theorem cacheBlind_ok_of_commutes {f : State → State} (h : ∀ s, f s.eraseCache = (f s).eraseCache) :
    CacheBlind fun s => .ok (f s) :=
  cacheBlind_ok fun s => by rw [h, eraseCache_eraseCache]

theorem map_alike_of_commutes {x y : Except Fault State} {f : State → State}
    (hf : ∀ s, f s.eraseCache = (f s).eraseCache) (h : x.map State.eraseCache = y.map State.eraseCache) :
    (x.map f).map State.eraseCache = (y.map f).map State.eraseCache :=
  (cacheBlind_ok_of_commutes hf).bind_alike h

/-! The fetch units and the bad-line evaluator. -/

theorem cacheBlind_steal (n : Int) : CacheBlind (steal n) := by
  intro s
  simp only [steal]
  split <;> rfl

theorem cacheBlind_fetchMatrix (offset count : Int) : CacheBlind (fetchMatrix offset count) := by
  intro s
  simp only [fetchMatrix]
  split <;> rfl

theorem cacheBlind_badlineAtFetch (t : Clock) : CacheBlind (badlineAtFetch t) := by
  intro s
  have hbad : badLineCondition s.eraseCache.cfg.toConfig (s.eraseCache.reg 0x11) (s.eraseCache.rasterY t.toNat) =
      badLineCondition s.cfg.toConfig (s.reg 0x11) (s.rasterY t.toNat) := rfl
  simp only [badlineAtFetch, hbad]
  split
  · exact CacheBlind.bind_alike (fun _ => (cacheBlind_steal _).alike rfl) ((cacheBlind_fetchMatrix _ _).alike rfl)
  · rfl

theorem cacheBlind_becomesBadInWindow (c : Nat) : CacheBlind (becomesBadInWindow c) := by
  intro s
  have hforced : s.eraseCache.forcedFetch c = s.forcedFetch c := rfl
  refine CacheBlind.bind_alike (fun s2 => ?_) ((cacheBlind_steal _).alike rfl)
  simp only [hforced]
  split
  · exact CacheBlind.bind_alike (fun _ => rfl) ((cacheBlind_fetchMatrix _ _).alike rfl)
  · rfl

theorem cacheBlind_lineBecomesBad (c : Nat) : CacheBlind (lineBecomesBad c) := by
  intro s
  obtain hbefore | hfrom := Nat.lt_or_ge c s.window0
  · rw [lineBecomesBad_beforeWindow hbefore, lineBecomesBad_beforeWindow (s := s.eraseCache) hbefore]
    rfl
  · obtain hin | hafter := Nat.lt_or_ge c s.window1
    · rw [lineBecomesBad_inWindow hfrom hin, lineBecomesBad_inWindow (s := s.eraseCache) hfrom hin]
      exact cacheBlind_becomesBadInWindow c s
    · rw [lineBecomesBad_afterWindow hafter, lineBecomesBad_afterWindow (s := s.eraseCache) hafter]
      rfl

theorem cacheBlind_badlineEval (old new : Byte) (y c : Nat) : CacheBlind (badlineEval old new y c) := by
  intro s
  cases hold : badLineCondition s.cfg.toConfig old y <;> cases hnew : badLineCondition s.cfg.toConfig new y
  case false.true =>
    rw [badlineEval_of_becomesBad c hold hnew, badlineEval_of_becomesBad (s := s.eraseCache) c hold hnew]
    exact (cacheBlind_lineBecomesBad c).alike rfl
  case true.false =>
    rw [badlineEval_of_becomesGood c hold hnew, badlineEval_of_becomesGood (s := s.eraseCache) c hold hnew]
    rfl
  all_goals
    have hsame := hold.trans hnew.symm
    rw [badlineEval_of_same c hsame, badlineEval_of_same (s := s.eraseCache) c hsame]
    rfl

theorem nextTuple_eraseCache (s : State) : nextTuple s.eraseCache = (nextTuple s).eraseCache := by
  simp only [nextTuple, eraseCache_cfg, eraseCache_spriteFetchMsk, eraseCache_spriteFetchIdx]
  split <;> rfl

theorem cacheBlind_fetchSprite : CacheBlind fetchSprite := by
  intro s
  simp only [fetchSprite, eraseCache_cfg, eraseCache_spriteFetchMsk, eraseCache_spriteFetchIdx]
  split
  · rfl
  · exact map_alike_of_commutes nextTuple_eraseCache ((cacheBlind_steal _).alike rfl)

theorem checkSpriteDma_eraseCache (s : State) : checkSpriteDma s.eraseCache = (checkSpriteDma s).eraseCache := rfl

/-! The renderer: what the line shows is computed before the cache is updated. -/

theorem pixelAt_eraseCache (s : State) (x : Nat) : s.eraseCache.pixelAt x = s.pixelAt x := rfl

theorem linePixels_eraseCache (s : State) : s.eraseCache.linePixels = s.linePixels :=
  List.map_congr_left fun x _ => pixelAt_eraseCache s x

theorem latchIdle_updateVerticalBorder_eraseCache (s : State) :
    latchIdle (updateVerticalBorder s.eraseCache) = (latchIdle (updateVerticalBorder s)).eraseCache := rfl

/-- DRAW_LINE reads the cache only to write it again (44_renderer.md R207): the one operation whose cache depends on
the cache before it. -/
theorem drawLine_eraseCache (s : State) : (drawLine s.eraseCache).eraseCache = (drawLine s).eraseCache := by
  simp only [drawLine, latchIdle_updateVerticalBorder_eraseCache, linePixels_eraseCache]
  rfl

/-! The alarms. -/

theorem fetchAlarmCheck_eraseCache (s : State) : fetchAlarmCheck s.eraseCache = (fetchAlarmCheck s).eraseCache := by
  simp only [fetchAlarmCheck, checkSpriteDma_eraseCache, apply_ite State.eraseCache]
  rfl

theorem cacheBlind_fetchAlarm : CacheBlind fetchAlarm := by
  intro s
  rw [fetchAlarm, fetchAlarm, eraseCache_fetchIdx]
  split
  · exact map_alike_of_commutes (fun _ => rfl) (cacheBlind_badlineAtFetch _ s)
  · exact cacheBlind_ok_of_commutes fetchAlarmCheck_eraseCache s
  · exact cacheBlind_fetchSprite s

theorem raiseIrq_eraseCache (src : IrqSource) (s : State) : raiseIrq src s.eraseCache = (raiseIrq src s).eraseCache :=
  rfl

theorem spriteSpriteIrq_eraseCache (m : Byte) (s : State) :
    spriteSpriteIrq m s.eraseCache = (spriteSpriteIrq m s).eraseCache := by
  simp only [spriteSpriteIrq, eraseCache_spriteSpriteCollisions]
  split
  · rfl
  · split <;> rfl

theorem spriteBackgroundIrq_eraseCache (m : Byte) (s : State) :
    spriteBackgroundIrq m s.eraseCache = (spriteBackgroundIrq m s).eraseCache := by
  simp only [spriteBackgroundIrq, eraseCache_spriteBackgroundCollisions]
  split
  · rfl
  · split <;> rfl

theorem collisionIrqs_eraseCache (s : State) : collisionIrqs s.eraseCache = (collisionIrqs s).eraseCache := by
  rw [collisionIrqs, spriteSpriteIrq_eraseCache, spriteBackgroundIrq_eraseCache]
  rfl

theorem beginNextLine_eraseCache (s : State) : beginNextLine s.eraseCache = (beginNextLine s).eraseCache := by
  simp only [beginNextLine, ite_vsync_eq, lineCounters_eq]
  rfl

theorem drawAlarm_eraseCache (s : State) : (drawAlarm s.eraseCache).eraseCache = (drawAlarm s).eraseCache := by
  rw [drawAlarm, drawAlarm, ← beginNextLine_eraseCache, ← beginNextLine_eraseCache, ← collisionIrqs_eraseCache,
    ← collisionIrqs_eraseCache, drawLine_eraseCache]

theorem rasterIrqAlarm_eraseCache (s : State) : rasterIrqAlarm s.eraseCache = (rasterIrqAlarm s).eraseCache := by
  rw [rasterIrqAlarm, rasterIrqAlarm, eraseCache_rasterIrqClk, eraseCache_cfg]
  split <;> rfl

/-! The service loops: the alarms come due at the same times, and each ignores the cache. -/

theorem cacheBlind_flushLoop (n wc : Nat) : CacheBlind (flushLoop n wc) := by
  induction n with
  | zero => exact fun _ => rfl
  | succ n ih =>
    intro s
    simp only [flushLoop_succ, eraseCache_dueAt, eraseCache_fetchClk, eraseCache_drawClk]
    split
    · exact ih.bind_alike (cacheBlind_fetchAlarm s)
    · split
      · exact ih.alike (drawAlarm_eraseCache s)
      · rfl

theorem cacheBlind_flush (wc : Nat) : CacheBlind (flush wc) := cacheBlind_flushLoop serviceFuel wc

theorem cacheBlind_advanceLoop (n : Nat) : CacheBlind (advanceLoop n) := by
  induction n with
  | zero => exact fun _ => rfl
  | succ n ih =>
    intro s
    simp only [advanceLoop_succ, eraseCache_fetchClk, eraseCache_drawClk, eraseCache_rasterIrqClk, eraseCache_clk,
      eraseCache_cfg]
    split
    · rfl
    · split
      · exact ih.bind_alike (cacheBlind_fetchAlarm s)
      · split
        · exact ih.alike (drawAlarm_eraseCache s)
        · exact ih.alike (by rw [rasterIrqAlarm_eraseCache, eraseCache_eraseCache])

theorem cacheBlind_advance : CacheBlind advance := cacheBlind_advanceLoop serviceFuel

/-! The effects of the writes. -/

theorem armRasterCompare_eraseCache (s : State) : armRasterCompare s.eraseCache = (armRasterCompare s).eraseCache := by
  simp only [armRasterCompare, apply_ite State.eraseCache]
  rfl

theorem updateRasterCompare_eraseCache (s : State) :
    updateRasterCompare s.eraseCache = (updateRasterCompare s).eraseCache := by
  simp only [updateRasterCompare, apply_ite State.eraseCache, armRasterCompare_eraseCache, raiseIrq_eraseCache]
  rfl

theorem addChangeIf_eraseCache (b : Bool) (t : TargetValue) (s : State) :
    addChangeIf b t s.eraseCache = (addChangeIf b t s).eraseCache := by
  rw [addChangeIf_eq, addChangeIf_eq]
  rfl

theorem resolvePointers_eraseCache (s : State) : resolvePointers s.eraseCache = (resolvePointers s).eraseCache := by
  rw [resolvePointers_eq, resolvePointers_eq]
  rfl

theorem setReg_eraseCache (a : RegAddr) (v : Byte) (s : State) :
    s.eraseCache.setReg a v = (s.setReg a v).eraseCache := rfl

theorem storeCr1_eraseCache (v : Byte) (s : State) : storeCr1 v s.eraseCache = (storeCr1 v s).eraseCache := by
  simp only [storeCr1, setReg_eraseCache, updateRasterCompare_eraseCache, ← addChangeIf_eraseCache]
  rfl

theorem cacheBlind_writeCr1 (v : Byte) : CacheBlind (writeCr1 v) := by
  intro s
  refine (cacheBlind_badlineEval _ _ _ _).alike ?_
  rw [storeCr1_eraseCache, eraseCache_eraseCache]

theorem cacheBlind_writeCr2 (v : Byte) : CacheBlind (writeCr2 v) := by
  intro s
  simp only [writeCr2, addChangeIf_eq]
  rfl

theorem cacheBlind_writeRaster (v : Byte) : CacheBlind (writeRaster v) :=
  cacheBlind_ok_of_commutes (f := fun s => updateRasterCompare (s.setReg 0x12 v)) fun s =>
    updateRasterCompare_eraseCache (s.setReg 0x12 v)

theorem cacheBlind_writeVmcsb (v : Byte) : CacheBlind (writeVmcsb v) :=
  cacheBlind_ok_of_commutes (f := fun s => resolvePointers (s.setReg 0x18 v)) fun s =>
    resolvePointers_eraseCache (s.setReg 0x18 v)

theorem cacheBlind_writeColour (a : RegAddr) (target : Colour → TargetValue) (v : Byte) :
    CacheBlind (writeColour a target v) := by
  intro s
  simp only [writeColour, addChangeIf_eq]
  rfl

/-! The host operations and the snapshot. -/

theorem cacheBlind_clockOverflow (sub : Clock) : CacheBlind (clockOverflow sub) := by
  intro s
  have hbelow : s.eraseCache.overflowBelowZero sub = s.overflowBelowZero sub := rfl
  rw [clockOverflow, clockOverflow, hbelow]
  split <;> rfl

theorem resetBlock_eraseCache (s : State) : resetBlock s.eraseCache = (resetBlock s).eraseCache := rfl

theorem setVbank_eraseCache (phi1 phi2 : Addr) (s : State) :
    setVbank phi1 phi2 s.eraseCache = (setVbank phi1 phi2 s).eraseCache :=
  resolvePointers_eraseCache { s with vbankPhi1 := phi1, vbankPhi2 := phi2 }

theorem setRamBase_eraseCache (off : BitVec 32) (s : State) :
    setRamBase off s.eraseCache = (setRamBase off s).eraseCache :=
  resolvePointers_eraseCache { s with ramBaseOffset := off }

theorem lightpenTrigger_eraseCache (s : State) : lightpenTrigger s.eraseCache = (lightpenTrigger s).eraseCache := by
  simp only [lightpenTrigger, apply_ite State.eraseCache]
  rfl

theorem videoRamStore_eraseCache (space : StoreSpace) (a : Addr) (v : Byte) (s : State) :
    videoRamStore space a v s.eraseCache = (videoRamStore space a v s).eraseCache := by
  cases space <;> rfl

theorem cacheBlind_snapshotWrite : CacheBlind snapshotWrite :=
  fun s => map_alike_of_commutes (fun _ => rfl) (cacheBlind_advance s)

theorem storeBody_eraseCache (b : List Byte) (s : State) : storeBody b s.eraseCache = (storeBody b s).eraseCache := by
  simp only [storeBody, State.eraseCache]

theorem recomputeDisplay_eraseCache (s : State) : recomputeDisplay s.eraseCache = (recomputeDisplay s).eraseCache := rfl

theorem recomputeSpriteFetch_eraseCache (s : State) :
    recomputeSpriteFetch s.eraseCache = (recomputeSpriteFetch s).eraseCache := by
  simp only [recomputeSpriteFetch, apply_ite State.eraseCache]
  rfl

theorem recomputeDerived_eraseCache (s : State) : recomputeDerived s.eraseCache = (recomputeDerived s).eraseCache := by
  rw [recomputeDerived, armRasterCompare_eraseCache, recomputeDisplay_eraseCache]
  exact recomputeSpriteFetch_eraseCache (updateIrqLine (recomputeDisplay (armRasterCompare s)))

theorem snapshotLoad_eraseCache (v : Version) (b : List Byte) (s : State) :
    snapshotLoad v b s.eraseCache = (snapshotLoad v b s).eraseCache := by
  have hproblem : s.eraseCache.loadProblem v b = s.loadProblem v b := rfl
  rw [snapshotLoad, snapshotLoad, hproblem]
  split
  · rfl
  · rw [storeBody_eraseCache, recomputeDerived_eraseCache]

/-! The operations. -/

/-- The operation answers two states that differ only in the cache alike, up to the cache it leaves. -/
def CacheUnseen (m : State → Host.Outcome State Fault Refusal) : Prop :=
  ∀ s, eraseOutcome (m s) = eraseOutcome (m s.eraseCache)

theorem eraseOutcome_answer (r : Except Fault State) : eraseOutcome (answer r) = answer (r.map State.eraseCache) := by
  cases r <;> rfl

theorem cacheUnseen_answer {f : State → Except Fault State} (hf : CacheBlind f) :
    CacheUnseen fun s => answer (f s) := by
  intro s
  simp only [eraseOutcome_answer, hf s]

theorem cacheUnseen_afterFlush {f : State → Except Fault State} (hf : CacheBlind f) : CacheUnseen (afterFlush f) :=
  cacheUnseen_answer fun s => hf.bind_alike (cacheBlind_flush 0 s)

theorem cacheUnseen_writeWith {wc : BitVec 2} {effect : State → Except Fault State} (hf : CacheBlind effect) :
    CacheUnseen (writeWith wc effect) :=
  cacheUnseen_answer fun s => hf.bind_alike (cacheBlind_flush wc.toNat s)

theorem cacheUnseen_readWith {value : State → Byte} {after : State → State}
    (hvalue : ∀ s, value s.eraseCache = value s) (hafter : ∀ s, after s.eraseCache = (after s).eraseCache) :
    CacheUnseen (readWith value after) :=
  cacheUnseen_answer fun s => map_alike_of_commutes (fun s => by rw [hvalue, hafter]; rfl) (cacheBlind_flush 0 s)

theorem cacheUnseen_peekWith {value : State → Byte} (hvalue : ∀ s, value s.eraseCache = value s) :
    CacheUnseen (peekWith value) :=
  cacheUnseen_answer (cacheBlind_ok_of_commutes fun s => by rw [hvalue]; rfl)

/-- SET_VBANK is refused for its operands alone. -/
theorem cacheUnseen_eventSetVbank : CacheUnseen execEventSetVbank := by
  intro s
  rw [execEventSetVbank, execEventSetVbank, eraseCache_operands]
  split
  · exact cacheUnseen_afterFlush (cacheBlind_ok_of_commutes (setVbank_eraseCache _ _)) s
  · rfl

/-- Settles O43: operation by operation, from the handler each one calls. -/
theorem cacheIsNeverObservable : Obligations.CacheIsNeverObservable := by
  show ∀ i, CacheUnseen (exec i)
  intro i
  cases i
  case read00 | read01 | read02 | read03 | read04 | read05 | read06 | read07 | read08 | read09 | read0A | read0B
      | read0C | read0D | read0E | read0F | read10 | read11 | read12 | read13 | read14 | read15 | read16 | read17
      | read18 | read19 | read1A | read1B | read1C | read1D | read1E | read1F | read20 | read21 | read22 | read23
      | read24 | read25 | read26 | read27 | read28 | read29 | read2A | read2B | read2C | read2D | read2E | read2F
      | read30 | read31 | read32 | read33 | read34 | read35 | read36 | read37 | read38 | read39 | read3A | read3B
      | read3C | read3D | read3E | read3F =>
    exact cacheUnseen_readWith (fun _ => rfl) fun _ => rfl
  case peek00 | peek01 | peek02 | peek03 | peek04 | peek05 | peek06 | peek07 | peek08 | peek09 | peek0A | peek0B
      | peek0C | peek0D | peek0E | peek0F | peek10 | peek11 | peek12 | peek13 | peek14 | peek15 | peek16 | peek17
      | peek18 | peek19 | peek1A | peek1B | peek1C | peek1D | peek1E | peek1F | peek20 | peek21 | peek22 | peek23
      | peek24 | peek25 | peek26 | peek27 | peek28 | peek29 | peek2A | peek2B | peek2C | peek2D | peek2E | peek2F
      | peek30 | peek31 | peek32 | peek33 | peek34 | peek35 | peek36 | peek37 | peek38 | peek39 | peek3A | peek3B
      | peek3C | peek3D | peek3E | peek3F =>
    exact cacheUnseen_peekWith fun _ => rfl
  case write00 | write01 | write02 | write03 | write04 | write05 | write06 | write07 | write08 | write09 | write0A
      | write0B | write0C | write0D | write0E | write0F | write10 | write13 | write14 | write15 | write17 | write19
      | write1A | write1B | write1C | write1D | write1E | write1F | write2F | write30 | write31 | write32 | write33
      | write34 | write35 | write36 | write37 | write38 | write39 | write3A | write3B | write3C | write3D | write3E
      | write3F =>
    exact cacheUnseen_writeWith fun _ => rfl
  case write11 wc v => exact cacheUnseen_writeWith (cacheBlind_writeCr1 v)
  case write12 wc v => exact cacheUnseen_writeWith (cacheBlind_writeRaster v)
  case write16 wc v => exact cacheUnseen_writeWith (cacheBlind_writeCr2 v)
  case write18 wc v => exact cacheUnseen_writeWith (cacheBlind_writeVmcsb v)
  case write20 | write21 | write22 | write23 | write24 | write25 | write26 | write27 | write28 | write29
      | write2A | write2B | write2C | write2D | write2E =>
    exact cacheUnseen_writeWith (cacheBlind_writeColour _ _ _)
  case eventAdvance => exact cacheUnseen_answer cacheBlind_advance
  case eventHandlePendingAlarms => exact cacheUnseen_answer fun s => cacheBlind_flush s.operands.writeCycles.toNat s
  case eventFetchAlarm => exact cacheUnseen_answer cacheBlind_fetchAlarm
  case eventDrawAlarm => exact cacheUnseen_answer (cacheBlind_ok drawAlarm_eraseCache)
  case eventRasterIrqAlarm => exact cacheUnseen_answer (cacheBlind_ok_of_commutes rasterIrqAlarm_eraseCache)
  case eventClockOverflow => exact fun s => cacheUnseen_afterFlush (cacheBlind_clockOverflow s.operands.sub) s
  case eventBadlineEval => exact cacheUnseen_answer fun s => cacheBlind_badlineEval _ _ _ _ s
  case eventFetchMatrix => exact cacheUnseen_answer fun s => cacheBlind_fetchMatrix _ _ s
  case eventCheckSpriteDma => exact cacheUnseen_answer (cacheBlind_ok_of_commutes checkSpriteDma_eraseCache)
  case eventFetchSprite => exact cacheUnseen_answer cacheBlind_fetchSprite
  case eventDrawLine => exact cacheUnseen_answer (cacheBlind_ok drawLine_eraseCache)
  case eventReset => exact cacheUnseen_answer (cacheBlind_ok_of_commutes resetBlock_eraseCache)
  case eventSnapshotWrite => exact cacheUnseen_answer cacheBlind_snapshotWrite
  case eventSnapshotLoad =>
    exact cacheUnseen_answer (cacheBlind_ok_of_commutes fun s =>
      snapshotLoad_eraseCache s.operands.version s.operands.body s)
  case eventSetVbank => exact cacheUnseen_eventSetVbank
  case eventSetRamBase =>
    exact fun s => cacheUnseen_afterFlush (cacheBlind_ok_of_commutes (setRamBase_eraseCache s.operands.ramBase)) s
  case eventLightpenTrigger =>
    exact cacheUnseen_afterFlush (cacheBlind_ok_of_commutes lightpenTrigger_eraseCache)
  case eventVideoRamStore =>
    exact fun s => cacheUnseen_afterFlush (cacheBlind_ok_of_commutes (videoRamStore_eraseCache _ _ _)) s

end Sys2Proof.Machine

/-! PROOFS. The renderer (44_renderer.md): the colours of a mode (R209 to R217), the sprites and their collisions (R221
to R228), and the pixels of a line as they are composed (R200, R224 to R226). -/

namespace Sys2Proof.Machine

/-! Bit pairs. -/

theorem toNat_extractLsb'_two {n : Nat} (g : BitVec n) (j : Nat) :
    (g.extractLsb' j 2).toNat = 2 * (g.getLsbD (j + 1)).toNat + (g.getLsbD j).toNat := by
  have hbits : ∀ p : BitVec 2, p.toNat = 2 * (p.getLsbD 1).toNat + (p.getLsbD 0).toNat := by decide
  rw [hbits, BitVec.getLsbD_extractLsb', BitVec.getLsbD_extractLsb']
  rfl

/-- The bits of a cell's pair, the high one left of the low one (44_renderer.md R218). -/
theorem toNat_cellPair (g : Byte) {b : Nat} (hb : b < 8) :
    (cellPair g b).toNat = 2 * (g.getLsbD (7 - 2 * (b / 2))).toNat + (g.getLsbD (6 - 2 * (b / 2))).toNat := by
  have hhi : 7 - 2 * (b / 2) = 6 - 2 * (b / 2) + 1 := by omega
  rw [cellPair, toNat_extractLsb'_two, hhi]

theorem cellPair_getLsbD_one (g : Byte) {b : Nat} (hb : b < 8) :
    (cellPair g b).getLsbD 1 = g.getLsbD (7 - 2 * (b / 2)) := by
  have hhi : 7 - 2 * (b / 2) = 6 - 2 * (b / 2) + 1 := by omega
  rw [cellPair, BitVec.getLsbD_extractLsb', hhi]
  rfl

/-! The modes. -/

/-- The background register that the two high bits of a byte name. -/
theorem backgroundAt_extractLsb' (r : RenderRegs) (c : Byte) :
    r.backgroundAt (c.extractLsb' 6 2) = r.background.getD (c.toNat / 64) 0 := by
  have hlt : c.toNat / 64 < 4 := by omega
  have hindex : c.toNat >>> 6 % 4 = c.toNat / 64 := by
    rw [Nat.shiftRight_eq_div_pow]
    omega
  simp [RenderRegs.backgroundAt, Vector.getD, hlt, hindex]

theorem multicolorTextPixel_eq (g : Byte) (k : Colour) {b : Nat} (r : RenderRegs) (hb : b < 8) :
    multicolorTextPixel g k b r =
      if k.getLsbD 3 then
        if g.getLsbD (7 - 2 * (b / 2)) then
          if g.getLsbD (6 - 2 * (b / 2)) then (k &&& 7, true) else (r.background[2], true)
        else if g.getLsbD (6 - 2 * (b / 2)) then (r.background[1], false) else (r.background[0], false)
      else if g.getLsbD (7 - b) then (k &&& 7, true) else (r.background[0], false) := by
  rw [multicolorTextPixel, toNat_cellPair g hb, cellBit]
  cases g.getLsbD (7 - 2 * (b / 2)) <;> cases g.getLsbD (6 - 2 * (b / 2)) <;> rfl

/-- The foreground bit of MulticolorText is the bit of the pixel or the high bit of its pair. -/
theorem multicolorTextPixel_snd (g : Byte) (k : Colour) {b : Nat} (r : RenderRegs) (hb : b < 8) :
    (multicolorTextPixel g k b r).2 = if k.getLsbD 3 then g.getLsbD (7 - 2 * (b / 2)) else g.getLsbD (7 - b) := by
  rw [multicolorTextPixel_eq g k r hb]
  cases k.getLsbD 3
  case false => cases g.getLsbD (7 - b) <;> rfl
  case true => cases g.getLsbD (7 - 2 * (b / 2)) <;> cases g.getLsbD (6 - 2 * (b / 2)) <;> rfl

theorem multicolorBitmapPixel_eq (g c : Byte) (k : Colour) {b : Nat} (r : RenderRegs) (hb : b < 8) :
    multicolorBitmapPixel g c k b r =
      if g.getLsbD (7 - 2 * (b / 2)) then
        if g.getLsbD (6 - 2 * (b / 2)) then (k, true) else (c.extractLsb' 0 4, true)
      else if g.getLsbD (6 - 2 * (b / 2)) then (c.extractLsb' 4 4, false) else (r.background[0], false) := by
  rw [multicolorBitmapPixel, toNat_cellPair g hb]
  cases g.getLsbD (7 - 2 * (b / 2)) <;> cases g.getLsbD (6 - 2 * (b / 2)) <;> rfl

/-- Settles O41: mode by mode; the illegal modes keep the foreground bit of the mode they are black in. -/
theorem modePixelsFollowTheModes : Obligations.ModePixelsFollowTheModes := by
  intro g c k b r hb bit hi lo b0
  refine ⟨rfl, multicolorTextPixel_eq g k r hb, rfl, multicolorBitmapPixel_eq g c k r hb, ?extended, ?illegalText, rfl,
    ?illegalBitmap2, rfl⟩
  case extended =>
    rw [← backgroundAt_extractLsb']
    rfl
  case illegalText => rw [modePixel, multicolorTextPixel_snd g k r hb]
  case illegalBitmap2 => rw [modePixel, cellPair_getLsbD_one g hb]

/-! A sprite at a raster X. -/

theorem multicolorSpritePixel_eq (d : BitVec 24) {j : Nat} (own mc0 mc1 : Colour) (hj : j < 24) :
    multicolorSpritePixel d j own mc0 mc1 =
      if d.getLsbD (23 - 2 * (j / 2)) then if d.getLsbD (22 - 2 * (j / 2)) then some mc1 else some own
      else if d.getLsbD (22 - 2 * (j / 2)) then some mc0 else none := by
  have hhi : 23 - 2 * (j / 2) = 22 - 2 * (j / 2) + 1 := by omega
  rw [multicolorSpritePixel, toNat_extractLsb'_two, hhi]
  cases d.getLsbD (22 - 2 * (j / 2) + 1) <;> cases d.getLsbD (22 - 2 * (j / 2)) <;> rfl

/-- The nine bits of a sprite's X (40_register_file.md R84). -/
theorem toNat_spriteX (s : State) (i : SpriteNo) : (s.spriteX i).toNat =
    (s.reg (BitVec.ofNat 6 (2 * i.val))).toNat + if (s.reg 0x10).getLsbD i.val then 256 else 0 := by
  rw [State.spriteX, BitVec.toNat_append, ← Nat.shiftLeft_add_eq_or_of_lt (BitVec.isLt _), Nat.add_comm]
  congr 1
  rw [spriteBit]
  cases (s.reg 0x10).getLsbD i.val <;> rfl

/-- A sprite covers 24 pixels from its left edge, or 48 that show each data bit twice (44_renderer.md R222). -/
theorem spriteIndexAt_eq (s : State) (i : SpriteNo) (x : Nat) {n : Int}
    (hn : n = x - (s.cfg.displayX0 - 24 + (s.reg (BitVec.ofNat 6 (2 * i.val))).toNat +
      if (s.reg 0x10).getLsbD i.val then 256 else 0)) :
    s.spriteIndexAt i x =
      if 0 ≤ n ∧ n < (if (s.reg 0x1D).getLsbD i.val then 48 else 24) then
        some (if (s.reg 0x1D).getLsbD i.val then n.toNat / 2 else n.toNat)
      else none := by
  have hleft : (x : Int) - (s.cfg.displayX0 + (s.spriteX i).toNat - 24) = n := by
    rw [hn, toNat_spriteX]
    split <;> omega
  simp only [State.spriteIndexAt, hleft, State.spriteXExpanded, spriteBit]
  cases (s.reg 0x1D).getLsbD i.val <;> rfl

/-- A sprite's colour at a raster X, by its registers (44_renderer.md R221 to R223). -/
theorem spritePixel_eq (s : State) (i : SpriteNo) (x : Nat) (regs : RenderRegs) :
      let left : Int := s.cfg.displayX0 - 24 + (s.reg (BitVec.ofNat 6 (2 * i.val))).toNat +
        if (s.reg 0x10).getLsbD i.val then 256 else 0
      let n : Int := x - left
      let expanded := (s.reg 0x1D).getLsbD i.val
      let j := if expanded then n.toNat / 2 else n.toNat
      let d := s.sprites[i].data
      let hi := d.getLsbD (23 - 2 * (j / 2))
      let lo := d.getLsbD (22 - 2 * (j / 2))
      s.spritePixel regs i x =
        if s.spriteDmaMask.getLsbD i.val = true ∧ 0 ≤ n ∧ n < (if expanded then 48 else 24) then
          if (s.reg 0x1C).getLsbD i.val then
            (if hi then (if lo then some regs.spriteMc[1] else some regs.spriteColor[i])
              else if lo then some regs.spriteMc[0] else none)
          else if d.getLsbD (23 - j) then some regs.spriteColor[i] else none
        else none := by
  intro left n expanded j d hi lo
  rw [State.spritePixel, spriteIndexAt_eq s i x (n := n) rfl, spriteBit, State.spriteMulticolor, spriteBit]
  by_cases hshown : s.spriteDmaMask.getLsbD i.val = true ∧ 0 ≤ n ∧ n < (if expanded then 48 else 24)
  case neg =>
    rw [if_neg hshown]
    by_cases hdma : s.spriteDmaMask.getLsbD i.val = true
    · have hout : ¬(0 ≤ n ∧ n < (if expanded then 48 else 24)) := fun hin => hshown ⟨hdma, hin⟩
      rw [if_pos hdma, if_neg hout]
      rfl
    · rw [if_neg hdma]
  case pos =>
    have ⟨hdma, hin⟩ := hshown
    have hj : j < 24 := by grind
    rw [if_pos hshown, if_pos hdma, if_pos hin, Option.bind_some, multicolorSpritePixel_eq _ _ _ _ hj, hiresSpritePixel]

/-! The opaque sprites at a raster X. -/

theorem mem_spriteNumbers : ∀ i : SpriteNo, i ∈ spriteNumbers := by decide

theorem mem_opaqueSprites {s : State} {x : Nat} {i : SpriteNo} {c : Colour} :
    (i, c) ∈ s.opaqueSprites x ↔ s.spritePixel (s.renderAt x) i x = some c := by
  simp [State.opaqueSprites, List.mem_filterMap, mem_spriteNumbers]

theorem map_fst_opaqueSprites (s : State) (x : Nat) : (s.opaqueSprites x).map Prod.fst =
    spriteNumbers.filter fun i => (s.spritePixel (s.renderAt x) i x).isSome := by
  rw [State.opaqueSprites, List.map_filterMap, ← List.filterMap_eq_filter]
  refine List.filterMap_congr fun i _ => ?_
  cases h : s.spritePixel (s.renderAt x) i x <;> simp [h, Option.guard]

/-- Where a sprite is opaque, a second one is exactly where two are listed. -/
theorem two_le_length_opaqueSprites {s : State} {x : Nat} {i : SpriteNo}
    (hi : (s.spritePixel (s.renderAt x) i x).isSome = true) :
    2 ≤ (s.opaqueSprites x).length ↔ ∃ j, j ≠ i ∧ (s.spritePixel (s.renderAt x) j x).isSome = true := by
  have hmem : ∀ j, j ∈ (spriteNumbers.filter fun j => (s.spritePixel (s.renderAt x) j x).isSome).toFinset ↔
      (s.spritePixel (s.renderAt x) j x).isSome = true := by simp [mem_spriteNumbers]
  rw [← List.length_map Prod.fst, map_fst_opaqueSprites,
    ← List.toFinset_card_of_nodup (List.Nodup.filter _ (by decide : spriteNumbers.Nodup))]
  constructor
  · intro htwo
    obtain ⟨j, hj, hne⟩ := (Finset.one_lt_card_iff_nontrivial.1 htwo).exists_ne i
    exact ⟨j, hne, (hmem j).1 hj⟩
  · rintro ⟨j, hne, hj⟩
    exact Finset.one_lt_card.2 ⟨j, (hmem j).2 hj, i, (hmem i).2 hi, hne⟩

/-! Masks. -/

theorem getLsbD_foldl_or {α : Type} (f : α → Byte) (l : List α) (m : Byte) (k : Nat) :
    (l.foldl (fun m p => m ||| f p) m).getLsbD k = (m.getLsbD k || l.any fun p => (f p).getLsbD k) := by
  induction l generalizing m with
  | nil => simp
  | cons p l ih => simp [ih, Bool.or_assoc]

theorem getLsbD_one_shiftLeft : ∀ i j : SpriteNo, (1#8 <<< j.val).getLsbD i.val = decide (j = i) := by decide

theorem getLsbD_spriteSetMask {o : List (SpriteNo × Colour)} {i : SpriteNo} :
    (spriteSetMask o).getLsbD i.val = true ↔ ∃ c, (i, c) ∈ o := by
  rw [spriteSetMask, getLsbD_foldl_or]
  simp only [getLsbD_one_shiftLeft, BitVec.getLsbD_zero, Bool.false_or, List.any_eq_true, decide_eq_true_eq,
    Prod.exists]
  exact ⟨fun ⟨_, c, hmem, hj⟩ => ⟨c, hj ▸ hmem⟩, fun ⟨c, hmem⟩ => ⟨i, c, hmem, rfl⟩⟩

theorem getLsbD_spriteSetMask_opaqueSprites {s : State} {x : Nat} {i : SpriteNo} :
    (spriteSetMask (s.opaqueSprites x)).getLsbD i.val = true ↔
      (s.spritePixel (s.renderAt x) i x).isSome = true := by
  simp only [getLsbD_spriteSetMask, mem_opaqueSprites, Option.isSome_iff_exists]

theorem getLsbD_ite_zero {p : Prop} [Decidable p] {m : Byte} {k : Nat} :
    (if p then m else 0).getLsbD k = true ↔ p ∧ m.getLsbD k = true := by
  by_cases h : p <;> simp [h]

/-! Collisions. -/

/-- 44_renderer.md R227 at one pixel. -/
theorem getLsbD_pixelAt_ss {s : State} {x : Nat} {i : SpriteNo} : (s.pixelAt x).ss.getLsbD i.val = true ↔
    (s.spritePixel (s.renderAt x) i x).isSome = true ∧
      ∃ j, j ≠ i ∧ (s.spritePixel (s.renderAt x) j x).isSome = true := by
  rw [State.pixelAt, getLsbD_ite_zero, getLsbD_spriteSetMask_opaqueSprites, and_comm]
  exact and_congr_right two_le_length_opaqueSprites

/-- 44_renderer.md R228 at one pixel. -/
theorem getLsbD_pixelAt_sb {s : State} {x : Nat} {i : SpriteNo} : (s.pixelAt x).sb.getLsbD i.val = true ↔
    (s.spritePixel (s.renderAt x) i x).isSome = true ∧ (s.gfxPixel x).2 = true := by
  rw [State.pixelAt, getLsbD_ite_zero, getLsbD_spriteSetMask_opaqueSprites, and_comm]
  refine and_congr_right fun hi => ⟨And.right, fun hfg => ⟨?_, hfg⟩⟩
  obtain ⟨c, hc⟩ := Option.isSome_iff_exists.1 hi
  exact List.length_pos_of_mem (mem_opaqueSprites.2 hc)

/-- The bits a line collects are those found at some pixel of it (44_renderer.md R200). -/
theorem getLsbD_foldl_linePixels (s : State) (f : PixelResult → Byte) (k : Nat) :
    (s.linePixels.foldl (fun m p => m ||| f p) 0#8).getLsbD k = true ↔
      ∃ x, x < 8 * s.cfg.cpl ∧ (f (s.pixelAt x)).getLsbD k = true := by
  rw [getLsbD_foldl_or]
  simp only [State.linePixels, BitVec.getLsbD_zero, Bool.false_or, List.any_map, List.any_eq_true, List.mem_range,
    Function.comp_apply]

/-- Settles O40: a line's bits are those of its pixels, and a pixel's are those of its opaque sprites. -/
theorem collisionBitsOfALine : Obligations.CollisionBitsOfALine := by
  intro s
  refine ⟨drawLine s, rfl, fun i => ⟨?spriteSprite, ?spriteBackground⟩, fun i x regs => ?spriteColour⟩
  case spriteSprite =>
    refine (getLsbD_foldl_linePixels _ PixelResult.ss _).trans ?_
    simp only [getLsbD_pixelAt_ss]
    rfl
  case spriteBackground =>
    refine (getLsbD_foldl_linePixels _ PixelResult.sb _).trans ?_
    simp only [getLsbD_pixelAt_sb]
    rfl
  case spriteColour => exact spritePixel_eq (latchIdle (updateVerticalBorder s)) i x regs

/-! The front sprite (44_renderer.md R224, R225). -/

/-- In a sorted list the first element with an image gives the head of the images. -/
theorem filterMap_eq_cons_of_first {α β : Type} [LT α] {g : α → Option β} {a : α} {b : β} (hg : g a = some b)
    (hfirst : ∀ i, i < a → g i = none) {l : List α} (hsorted : l.Pairwise (· < ·)) (ha : a ∈ l) :
    ∃ rest, l.filterMap g = b :: rest := by
  induction hsorted with
  | nil => cases ha
  | @cons x xs hx _ ih =>
    rcases List.mem_cons.1 ha with rfl | hxs
    · exact ⟨_, List.filterMap_cons_some hg⟩
    · rw [List.filterMap_cons_none (hfirst x (hx a hxs))]
      exact ih hxs

section
variable {s : State} {x : Nat}

theorem opaqueSprites_of_none (h : ∀ i, s.spritePixel (s.renderAt x) i x = none) : s.opaqueSprites x = [] :=
  List.filterMap_eq_nil_iff.2 fun i _ => by rw [h i]; rfl

theorem opaqueSprites_of_first {f : SpriteNo} {c : Colour} (hf : s.spritePixel (s.renderAt x) f x = some c)
    (hfirst : ∀ i, i < f → s.spritePixel (s.renderAt x) i x = none) : ∃ rest, s.opaqueSprites x = (f, c) :: rest :=
  filterMap_eq_cons_of_first (by rw [hf]; rfl) (fun i hi => by rw [hfirst i hi]; rfl)
    (by decide : spriteNumbers.Pairwise (· < ·)) (mem_spriteNumbers f)

/-! COMPOSE (44_renderer.md R224 to R226), case by case. -/

theorem pixelAt_out_of_border (h : s.borderPixel x = true) : (s.pixelAt x).out = (s.renderAt x).borderColor :=
  if_pos h

theorem pixelAt_out_of_graphics (h : s.borderPixel x = false)
    (hnone : ∀ i, s.spritePixel (s.renderAt x) i x = none) : (s.pixelAt x).out = (s.gfxPixel x).1 := by
  simp [State.pixelAt, State.compose, h, opaqueSprites_of_none hnone]

theorem pixelAt_out_of_sprite {f : SpriteNo} {c : Colour} (h : s.borderPixel x = false)
    (hf : s.spritePixel (s.renderAt x) f x = some c)
    (hfirst : ∀ i, i < f → s.spritePixel (s.renderAt x) i x = none) :
    (s.pixelAt x).out = if s.spritePriority f = true ∧ (s.gfxPixel x).2 = true then (s.gfxPixel x).1 else c := by
  obtain ⟨rest, hlist⟩ := opaqueSprites_of_first hf hfirst
  simp [State.pixelAt, State.compose, h, hlist]

theorem linePixels_getElem? (h : x < 8 * s.cfg.cpl) : s.linePixels[x]? = some (s.pixelAt x) := by
  simp [State.linePixels, h]

theorem columnWindow_eq (c : Config) (csel : Bool) : columnWindow c csel =
    (c.displayX0 + (if csel then c.left40 else c.left38), c.displayX0 + (if csel then c.right40 else c.right38)) := by
  cases csel <;> rfl

/-- What the border covers (44_renderer.md R206). -/
theorem borderPixel_iff : s.borderPixel x = true ↔ s.blank = true ∨ s.verticalBorder = true ∨
    (x : Int) < s.cfg.displayX0 + (if (s.renderAt x).columnMode then s.cfg.left40 else s.cfg.left38) ∨
    s.cfg.displayX0 + (if (s.renderAt x).columnMode then s.cfg.right40 else s.cfg.right38) ≤ (x : Int) := by
  simp only [State.borderPixel, columnWindow_eq, Bool.or_eq_true, decide_eq_true_eq, or_assoc]

end

/-! The graphics (44_renderer.md R205, R213, R218). -/

/-- A row of an eight-byte cell, in naturals (44_renderer.md R205). -/
theorem cellRow_eq {w : Nat} (code : BitVec w) (y : BitVec 3) :
    (code.setWidth 16 <<< 3) + y.setWidth 16 = BitVec.ofNat 16 (code.toNat * 8 + y.toNat) := by
  apply BitVec.eq_of_toNat_eq
  simp only [BitVec.toNat_add, BitVec.toNat_shiftLeft, BitVec.toNat_setWidth, BitVec.toNat_ofNat, Nat.shiftLeft_eq]
  omega

theorem toNat_and_0x3F (c : Byte) : (c &&& 0x3F#8).toNat = c.toNat % 64 := by
  rw [BitVec.toNat_and]
  exact Nat.and_two_pow_sub_one_eq_mod c.toNat 6

/-- The matrix position of a column, modulo 1024. -/
theorem toNat_add_ofNat (p : BitVec 10) (col : Nat) : (p + BitVec.ofNat 10 col).toNat = (p.toNat + col) % 1024 := by
  simp

theorem columnInputs_of_address {s : State} {col : Nat} {r : RenderRegs} {a : Addr}
    (hr : s.renderAt (s.cfg.displayX0 + 8 * col) = r)
    (h : graphicsAddress (s.modeAt r) r (s.vbuf.getD col 0) (s.memCounter + BitVec.ofNat 10 col) s.ycounter = some a) :
    s.columnInputs col =
      { g := s.phi1Read a, c := s.vbuf.getD col 0, k := (s.cbuf.getD col 0).extractLsb' 0 4, mode := s.modeAt r } := by
  simp only [State.columnInputs, hr, h]

theorem columnInputs_of_idle {s : State} {col : Nat}
    (h : s.modeAt (s.renderAt (s.cfg.displayX0 + 8 * col)) = .idle) :
    s.columnInputs col = { g := s.idleData, c := 0, k := 0, mode := .idle } := by
  simp only [State.columnInputs, h, graphicsAddress]

theorem gapColour_eq (s : State) (r : RenderRegs) : s.gapColour r =
    if s.idleState = false ∧ r.videoMode = .extendedText then r.background.getD (s.backgroundColorSource.toNat / 64) 0
    else if s.idleState = false ∧ r.videoMode = .hiresBitmap then s.backgroundColorSource.extractLsb' 0 4
    else r.background[0] := by
  rw [← backgroundAt_extractLsb', State.gapColour, State.modeAt]
  cases s.idleState
  case true => rfl
  case false => cases r.videoMode <;> rfl

/-- Settles O39: the pixel is COMPOSE of the graphics and the front sprite, and the inputs of its column are those of
the mode at the column's first X. -/
theorem pixelsAreComposed : Obligations.PixelsAreComposed := by
  intro s
  refine ⟨drawLine s, (latchIdle (updateVerticalBorder s)).linePixels.map PixelResult.out, rfl, rfl, ?_⟩
  intro s1 x0 x hx regs left right gap n col at0 mode code row bitmap address g c k
  have hpixel : (s1.linePixels.map PixelResult.out)[x]? = some (s1.pixelAt x).out := by
    rw [List.getElem?_map, linePixels_getElem? (s := s1) hx]
    rfl
  have hcol : (s1.columnInputs col).g = g ∧ (s1.columnInputs col).c = c ∧ (s1.columnInputs col).k = k := by
    have hmode : s1.modeAt at0 = mode := rfl
    clear_value mode
    by_cases hidle : mode = .idle
    case pos =>
      rw [columnInputs_of_idle (hmode.trans hidle)]
      exact ⟨(if_pos hidle).symm, (if_pos hidle).symm, (if_pos hidle).symm⟩
    case neg =>
      have haddress : graphicsAddress (s1.modeAt at0) at0 (s1.vbuf.getD col 0) (s1.memCounter + BitVec.ofNat 10 col)
          s1.ycounter = some address := by
        rw [hmode]
        cases mode
        case idle => exact absurd rfl hidle
        all_goals
          simp only [graphicsAddress, BitVec.add_assoc, cellRow_eq, toNat_and_0x3F, toNat_add_ofNat]
          rfl
      rw [columnInputs_of_address rfl haddress]
      exact ⟨(if_neg hidle).symm, (if_neg hidle).symm, (if_neg hidle).symm⟩
  rw [hpixel]
  refine ⟨borderPixel_iff, ?graphics, fun hborder => ?border, fun hborder hnone => ?noSprite,
    fun f colour hborder hf hfirst => ?sprite⟩
  case border => rw [pixelAt_out_of_border hborder]
  case noSprite => rw [pixelAt_out_of_graphics hborder hnone]
  case sprite => rw [pixelAt_out_of_sprite hborder hf hfirst]; rfl
  case graphics =>
    have hgap : s1.gapColour regs = gap := gapColour_eq s1 regs
    obtain ⟨hg, hc, hk⟩ := hcol
    rw [State.gfxPixel, ← hgap, ← hg, ← hc, ← hk]
    rfl

end Sys2Proof.Machine

/-! PROOFS. Interrupts and failed loads (60_exceptions.md): the collision interrupts of a line (R260, R261), the light
pen's latch (R264), and a SNAPSHOT_LOAD that fails (R271, R273, R274). -/

namespace Sys2Proof.Machine

/-! The collision interrupts. -/

/-- The status bit that a line's collision bits set, on an accumulator: the source's own on the change from zero to
non-zero, and none on any other (60_exceptions.md R260, R261). -/
def collisionBit (src : IrqSource) (accumulated line : Byte) : Byte :=
  if accumulated = 0 ∧ line ≠ 0 then src.mask else 0

theorem collisionBit_of_line_zero (src : IrqSource) (a : Byte) : collisionBit src a 0#8 = 0#8 :=
  if_neg fun h => h.2 rfl

theorem collisionBit_of_first (src : IrqSource) {line : Byte} (h : line ≠ 0#8) :
    collisionBit src 0#8 line = src.mask :=
  if_pos ⟨rfl, h⟩

theorem collisionBit_of_accumulated (src : IrqSource) {a : Byte} (line : Byte) (h : a ≠ 0#8) :
    collisionBit src a line = 0#8 :=
  if_neg fun hfirst => h hfirst.1

/-- The interrupt request is that of the status and the mask (60_exceptions.md R259): the clause of `DerivedOk` that the
collision interrupts use. -/
abbrev RequestOk (s : State) : Prop := s.irqLine = irqRequest s.irqStatus (s.reg 0x1A)

/-- The state with further status bits and the request that follows from them (60_exceptions.md R258, R259). -/
def State.withStatusBits (s : State) (bits : Byte) : State :=
  { s with irqStatus := s.irqStatus ||| bits, irqLine := irqRequest (s.irqStatus ||| bits) (s.reg 0x1A) }

theorem raiseIrq_eq_withStatusBits (src : IrqSource) (s : State) : raiseIrq src s = s.withStatusBits src.mask := rfl

theorem requestOk_withStatusBits (s : State) (bits : Byte) : RequestOk (s.withStatusBits bits) := rfl

/-- Where the request already follows from the status, no bits are no change. -/
theorem withStatusBits_zero {s : State} (h : RequestOk s) : s.withStatusBits 0#8 = s := by
  rw [State.withStatusBits, BitVec.or_zero, ← h]

/-- The raise of a collision source, on a line that has collisions of its kind. -/
theorem raiseIrq_of_collision {s : State} (h : RequestOk s) {src : IrqSource} {accumulated line : Byte}
    (hline : line ≠ 0#8) : (if accumulated = 0#8 then raiseIrq src s else s) =
      s.withStatusBits (collisionBit src accumulated line) := by
  by_cases hfirst : accumulated = 0#8
  case pos => rw [if_pos hfirst, hfirst, collisionBit_of_first src hline, raiseIrq_eq_withStatusBits]
  case neg => rw [if_neg hfirst, collisionBit_of_accumulated src line hfirst, withStatusBits_zero h]

theorem spriteSpriteIrq_eq {s : State} (h : RequestOk s) (line : Byte) :
    spriteSpriteIrq line s =
      { s with spriteSpriteCollisions := s.spriteSpriteCollisions ||| line }.withStatusBits
        (collisionBit .immc s.spriteSpriteCollisions line) := by
  by_cases hline : line = 0#8
  case pos =>
    rw [hline, spriteSpriteIrq, if_pos rfl, collisionBit_of_line_zero, BitVec.or_zero]
    exact (withStatusBits_zero h).symm
  case neg =>
    simp only [spriteSpriteIrq, if_neg hline, raiseIrq_of_collision h hline]
    rfl

theorem spriteBackgroundIrq_eq {s : State} (h : RequestOk s) (line : Byte) :
    spriteBackgroundIrq line s =
      { s with spriteBackgroundCollisions := s.spriteBackgroundCollisions ||| line }.withStatusBits
        (collisionBit .imbc s.spriteBackgroundCollisions line) := by
  by_cases hline : line = 0#8
  case pos =>
    rw [hline, spriteBackgroundIrq, if_pos rfl, collisionBit_of_line_zero, BitVec.or_zero]
    exact (withStatusBits_zero h).symm
  case neg =>
    simp only [spriteBackgroundIrq, if_neg hline, raiseIrq_of_collision h hline]
    rfl

/-- COLLISION_IRQS on the collision bits that the drawing left (60_exceptions.md R260, R261, R267): both accumulators
and both status bits, in one update of the state. -/
theorem collisionIrqs_eq {s : State} (h : RequestOk s) :
    collisionIrqs s =
      { s with
        spriteSpriteCollisions := s.spriteSpriteCollisions ||| s.lineCollisions.1
        spriteBackgroundCollisions := s.spriteBackgroundCollisions ||| s.lineCollisions.2 }.withStatusBits
          (collisionBit .immc s.spriteSpriteCollisions s.lineCollisions.1 |||
            collisionBit .imbc s.spriteBackgroundCollisions s.lineCollisions.2) := by
  rw [collisionIrqs, spriteSpriteIrq_eq h, spriteBackgroundIrq_eq (requestOk_withStatusBits _ _)]
  simp only [State.withStatusBits, BitVec.or_assoc]
  rfl

/-- Drawing a line changes neither the status, the mask nor the request. -/
theorem requestOk_drawLine {s : State} (h : RequestOk s) : RequestOk (drawLine s) := by
  simpa [RequestOk, State.reg] using h

/-- Settles O30: the collision interrupts are `collisionIrqs_eq` on the line drawn, and what follows them in the alarm
leaves the accumulators, the status and the request alone. -/
theorem drawAlarmRaisesCollisionInterrupts : Obligations.DrawAlarmRaisesCollisionInterrupts := by
  intro s hderived
  obtain ⟨hrequest, -⟩ := hderived
  refine ⟨drawLine s, drawAlarm s, rfl, rfl, ?_⟩
  rw [drawAlarm, collisionIrqs_eq (requestOk_drawLine hrequest)]
  simp [State.withStatusBits, State.reg, collisionBit, IrqSource.mask]

/-! The light pen. -/

/-- An operation that begins with the flush, and whose effect cannot stop, is that effect after the flush. -/
theorem flushedResult_of_afterFlush {i : Instr} {f : State → State} (h : exec i = afterFlush fun s1 => .ok (f s1)) :
    FlushedResult 0 i f :=
  flushedResult_of_answer (congrFun h)

/-- LIGHTPEN_TRIGGER after its flush, its raise of `ILP` written out (60_exceptions.md R258, R264). -/
theorem lightpenTrigger_eq (s : State) : lightpenTrigger s =
    if s.lightPen.triggered then s
    else { s with lightPen := { triggered := true, x := s.penX, y := BitVec.ofNat 8 s.lineNow } }.withStatusBits 0x08#8 :=
  rfl

/-- Settles O44: by `lightpenTrigger_eq` the latch is taken, and `ILP` raised, only while the latch is clear. -/
theorem lightpenLatchesOncePerFrame : Obligations.LightpenLatchesOncePerFrame := by
  unfold Obligations.LightpenLatchesOncePerFrame
  have hresult : FlushedResult 0 .eventLightpenTrigger lightpenTrigger := flushedResult_of_afterFlush rfl
  rwa [funext lightpenTrigger_eq] at hresult

/-! A load that fails. -/

theorem exec_eventSnapshotLoad (s : State) :
    exec .eventSnapshotLoad s = .next (snapshotLoad s.operands.version s.operands.body s) := rfl

theorem snapshotLoad_of_problem {v : Version} {b : List Byte} {s : State} {m : LogMessage}
    (h : s.loadProblem v b = some m) : snapshotLoad v b s = { s with log := s.log ++ [m] } := by
  rw [snapshotLoad, h]; rfl

section
variable {s : State} {v : Version} {b : List Byte}

theorem loadProblem_of_newer (hnewer : v.newerThan s.cfg.snapshotVersion = true) :
    s.loadProblem v b = some (.snapshotVersionError v) := if_pos hnewer

theorem loadProblem_of_size (hversion : v.newerThan s.cfg.snapshotVersion = false) (hsize : b.length ≠ 1223) :
    s.loadProblem v b = some (.snapshotLoadError .size) := by
  rw [State.loadProblem, hversion]; exact if_pos hsize

theorem loadProblem_of_position (hversion : v.newerThan s.cfg.snapshotVersion = false) (hsize : b.length = 1223)
    (hposition : (byteAt b 1116).toNat ≠ s.cycleNow ∨ (word16At b 1117).toNat ≠ s.lineNow) :
    s.loadProblem v b = some (.snapshotLoadError .rasterPositionMismatch) := by
  have hlength : b.length = bodyLength := hsize
  rw [State.loadProblem, hversion, if_neg Bool.false_ne_true, if_neg (not_not_intro hlength), if_pos hposition]

end

/-- Settles O48: a load answers in every case, and each of the failures is the first that the load finds. -/
theorem snapshotLoadIsAllOrNothing : Obligations.SnapshotLoadIsAllOrNothing := by
  intro s
  have hfails : ∀ m, s.loadProblem s.operands.version s.operands.body = some m →
      exec .eventSnapshotLoad s = .next { s with log := s.log ++ [m] } := fun m hproblem => by
    rw [exec_eventSnapshotLoad, snapshotLoad_of_problem hproblem]
  refine ⟨⟨_, exec_eventSnapshotLoad s⟩, hfails, fun hnewer => ?newer, fun hversion hsize => ?size,
    fun hversion hsize hposition => ?position⟩
  case newer => exact hfails _ (loadProblem_of_newer hnewer)
  case size => exact hfails _ (loadProblem_of_size hversion hsize)
  case position => exact hfails _ (loadProblem_of_position hversion hsize hposition)

end Sys2Proof.Machine

/-! PROOFS. The round trip of the encoding (30_encoding.md R60, R61, R63): the tables of the decoder and the fields of
the encoder list the same rows. -/

namespace Sys2Proof.Machine

/-! The rows of the tables. -/

theorem fields_readTable : readTable.map Instr.fields = (List.range 64).map fun n => ⟨0, 0, BitVec.ofNat 6 n, 0⟩ := rfl

theorem fields_peekTable : peekTable.map Instr.fields = (List.range 64).map fun n => ⟨2, 0, BitVec.ofNat 6 n, 0⟩ := rfl

theorem fields_writeTable (wc : BitVec 2) (v : Byte) :
    (writeTable wc v).map Instr.fields = (List.range 64).map fun n => ⟨1, wc, BitVec.ofNat 6 n, v⟩ := rfl

theorem fields_eventTable : eventTable.map Instr.fields =
    (List.range 18).map fun n => ⟨3, 0, BitVec.ofNat 6 n, 0⟩ := rfl

/-- The fields of a row of a table that lists the addresses in order. -/
theorem fields_getElem {t : List Instr} {n : Nat} {op wc : BitVec 2} {v : Byte}
    (h : t.map Instr.fields = (List.range n).map fun k => ⟨op, wc, BitVec.ofNat 6 k, v⟩) (a : RegAddr)
    (ha : a.toNat < t.length) : t[a.toNat].fields = ⟨op, wc, a, v⟩ := by
  have hrow : (t.map Instr.fields)[a.toNat]? = some ⟨op, wc, a, v⟩ := by
    have hn : a.toNat < n := by simpa using ha.trans_eq (by simpa using congrArg List.length h)
    rw [h]
    simp [hn]
  simpa [ha] using hrow

theorem fields_tableAt {t : List Instr} (hlen : t.length = 64) {op wc : BitVec 2} {v : Byte}
    (h : t.map Instr.fields = (List.range 64).map fun k => ⟨op, wc, BitVec.ofNat 6 k, v⟩) (a : RegAddr) :
    (tableAt t hlen a).fields = ⟨op, wc, a, v⟩ :=
  fields_getElem h a _

/-! Decoding what has been encoded. -/

/-- The decoder finds each operation in the row that its fields name, a WRITE for every value of its operands. -/
theorem decodeFields_fields (i : Instr) : decodeFields i.fields = .ok i := by
  cases i <;> rfl

/-- Settles O1: the word holds the fields, and the fields name the operation's row. -/
theorem decodeOfEncodeIsIdentity : Obligations.DecodeOfEncodeIsIdentity := by
  intro i
  rw [decode, encode, splitWord_joinWord, decodeFields_fields]

/-! Encoding what has been decoded. -/

/-- What an accepted word decodes to has the fields of that word: each kind of word by its table. -/
theorem fields_of_decodeFields {f : WordFields} {i : Instr} (h : decodeFields f = .ok i) : i.fields = f := by
  obtain ⟨op, wc, addr, value⟩ := f
  by_cases hwrite : op = 1#2
  case pos =>
    subst hwrite
    rw [decodeFields_of_write rfl] at h
    cases h
    exact fields_tableAt _ (fields_writeTable wc value) addr
  case neg =>
    by_cases hzero : wc ≠ 0#2 ∨ value ≠ 0#8
    case pos =>
      rw [decodeFields_of_nonZero hwrite hzero] at h
      cases h
    case neg =>
      obtain ⟨rfl, rfl⟩ : wc = 0#2 ∧ value = 0#8 := by simpa only [not_or, not_not] using hzero
      obtain rfl | rfl | rfl | rfl : op = 0#2 ∨ op = 1#2 ∨ op = 2#2 ∨ op = 3#2 := op_cases ⟨op, 0, addr, 0⟩
      · rw [decodeFields_of_read rfl hzero] at h
        cases h
        exact fields_tableAt _ fields_readTable addr
      · exact absurd rfl hwrite
      · rw [decodeFields_of_peek rfl hzero] at h
        cases h
        exact fields_tableAt _ fields_peekTable addr
      · rw [decodeFields_of_event rfl hzero] at h
        split at h
        case isTrue haddr =>
          cases h
          exact fields_getElem fields_eventTable addr haddr
        case isFalse => cases h

/-- Settles O2: by `fields_of_decodeFields` the operation is encoded with the fields that the word has. -/
theorem encodeOfDecodeIsIdentity : Obligations.EncodeOfDecodeIsIdentity := by
  intro w i h
  rw [encode, fields_of_decodeFields h, joinWord_splitWord]

/-- Settles O4, word by word. -/
theorem listedWordsDecode : Obligations.ListedWordsDecode := by
  refine ⟨?_, ?_, ?_, ?_, ?_, ?_, ?_, ?_, ?_, ?_, ?_, ?_⟩ <;> rfl

end Sys2Proof.Machine

/-! PROOFS. What one operation can do: the handler that each operation calls, told apart once for every statement about
all operations, and what the service of the alarms can write. -/

namespace Sys2Proof.Machine

/-! The handlers. -/

/-- The registers whose WRITE does nothing but store (40_register_file.md R84 to R86, R93, R104). -/
def plainRegisters : List RegAddr := (storedWrites 0 0).map Prod.snd

theorem exec_of_mem_storedWrites (wc : BitVec 2) (v : Byte) :
    ∀ p ∈ storedWrites wc v, exec p.1 = writeWith wc (writeStore p.2 v) :=
  List.map_inj_left.1 rfl

theorem mem_plainRegisters {wc : BitVec 2} {v : Byte} {p : Instr × RegAddr} (h : p ∈ storedWrites wc v) :
    p.2 ∈ plainRegisters :=
  List.mem_map_of_mem (l := storedWrites wc v) (f := Prod.snd) h

/-- The side effect of a READ after its flush: none, or the accumulator of its address is cleared
(40_register_file.md R82, R107, R109). -/
inductive ReadEffect : (State → State) → Prop
  | plain : ReadEffect id
  | spriteSprite : ReadEffect clearSpriteSprite
  | spriteBackground : ReadEffect clearSpriteBackground

/-- The effect of a WRITE of `v` after its flush (40_register_file.md R83 to R116). -/
inductive WriteEffect (wc : BitVec 2) (v : Byte) : (State → Except Fault State) → Prop
  | store {a : RegAddr} (ha : a ∈ plainRegisters) : WriteEffect wc v (writeStore a v)
  | ignored : WriteEffect wc v writeNothing
  | colour {p : Instr × RegAddr × TargetValue} (hp : p ∈ colourWrites wc v) :
      WriteEffect wc v (writeColour p.2.1 (fun _ => p.2.2) v)
  | cr1 : WriteEffect wc v (writeCr1 v)
  | raster : WriteEffect wc v (writeRaster v)
  | cr2 : WriteEffect wc v (writeCr2 v)
  | yxpand : WriteEffect wc v (writeYxpand v)
  | vmcsb : WriteEffect wc v (writeVmcsb v)
  | vicirq : WriteEffect wc v writeVicirq
  | irqmask : WriteEffect wc v (writeIrqmask v)

/-- Every operation is a READ, a PEEK or a WRITE of one of a few handlers, or one of the 18 EVENTs (30_encoding.md R61,
R63). -/
inductive OperationShape : Instr → Prop
  | read {i : Instr} {value : State → Byte} {after : State → State} (hexec : exec i = readWith value after)
      (hafter : ReadEffect after) (hop : i.fields.op = 0) : OperationShape i
  | peek {i : Instr} {value : State → Byte} (hexec : exec i = peekWith value) : OperationShape i
  | write {i : Instr} {wc : BitVec 2} {v : Byte} {effect : State → Except Fault State}
      (hexec : exec i = writeWith wc effect) (heffect : WriteEffect wc v effect) (hop : i.fields.op = 1) :
      OperationShape i
  | eventAdvance : OperationShape .eventAdvance
  | eventHandlePendingAlarms : OperationShape .eventHandlePendingAlarms
  | eventFetchAlarm : OperationShape .eventFetchAlarm
  | eventDrawAlarm : OperationShape .eventDrawAlarm
  | eventRasterIrqAlarm : OperationShape .eventRasterIrqAlarm
  | eventClockOverflow : OperationShape .eventClockOverflow
  | eventBadlineEval : OperationShape .eventBadlineEval
  | eventFetchMatrix : OperationShape .eventFetchMatrix
  | eventCheckSpriteDma : OperationShape .eventCheckSpriteDma
  | eventFetchSprite : OperationShape .eventFetchSprite
  | eventDrawLine : OperationShape .eventDrawLine
  | eventReset : OperationShape .eventReset
  | eventSnapshotWrite : OperationShape .eventSnapshotWrite
  | eventSnapshotLoad : OperationShape .eventSnapshotLoad
  | eventSetVbank : OperationShape .eventSetVbank
  | eventSetRamBase : OperationShape .eventSetRamBase
  | eventLightpenTrigger : OperationShape .eventLightpenTrigger
  | eventVideoRamStore : OperationShape .eventVideoRamStore

/-- The WRITEs that only store, those of the colour registers and those that store nothing, each found in its list. -/
theorem operationShape_of_mem {wc : BitVec 2} {v : Byte} {i : Instr} (hop : i.fields.op = 1)
    (h : i ∈ (storedWrites wc v).map Prod.fst ∨ i ∈ (colourWrites wc v).map Prod.fst ∨ i ∈ ignoredWrites wc v) :
    OperationShape i := by
  obtain hstored | hcolour | hignored := h
  · obtain ⟨p, hp, rfl⟩ := List.mem_map.1 hstored
    exact .write (exec_of_mem_storedWrites wc v p hp) (.store (mem_plainRegisters hp)) hop
  · obtain ⟨p, hp, rfl⟩ := List.mem_map.1 hcolour
    exact .write (exec_of_mem_colourWrites wc v p hp) (.colour hp) hop
  · exact .write (v := v) (exec_of_mem_ignoredWrites wc v i hignored) .ignored hop

theorem operationShape (i : Instr) : OperationShape i := by
  cases i
  case read00 | read01 | read02 | read03 | read04 | read05 | read06 | read07 | read08 | read09 | read0A
      | read0B | read0C | read0D | read0E | read0F | read10 | read11 | read12 | read13 | read14 | read15
      | read16 | read17 | read18 | read19 | read1A | read1B | read1C | read1D | read20 | read21 | read22
      | read23 | read24 | read25 | read26 | read27 | read28 | read29 | read2A | read2B | read2C | read2D
      | read2E | read2F | read30 | read31 | read32 | read33 | read34 | read35 | read36 | read37 | read38
      | read39 | read3A | read3B | read3C | read3D | read3E | read3F =>
    exact .read rfl .plain rfl
  case read1E => exact .read rfl .spriteSprite rfl
  case read1F => exact .read rfl .spriteBackground rfl
  case peek00 | peek01 | peek02 | peek03 | peek04 | peek05 | peek06 | peek07 | peek08 | peek09 | peek0A
      | peek0B | peek0C | peek0D | peek0E | peek0F | peek10 | peek11 | peek12 | peek13 | peek14 | peek15
      | peek16 | peek17 | peek18 | peek19 | peek1A | peek1B | peek1C | peek1D | peek1E | peek1F | peek20
      | peek21 | peek22 | peek23 | peek24 | peek25 | peek26 | peek27 | peek28 | peek29 | peek2A | peek2B
      | peek2C | peek2D | peek2E | peek2F | peek30 | peek31 | peek32 | peek33 | peek34 | peek35 | peek36
      | peek37 | peek38 | peek39 | peek3A | peek3B | peek3C | peek3D | peek3E | peek3F =>
    exact .peek rfl
  case write00 | write01 | write02 | write03 | write04 | write05 | write06 | write07 | write08 | write09
      | write0A | write0B | write0C | write0D | write0E | write0F | write10 | write15 | write1B | write1C
      | write1D =>
    next wc v =>
      refine operationShape_of_mem (wc := wc) (v := v) rfl (.inl ?_)
      simp [storedWrites, storedWrites0, storedWrites1]
  case write20 | write21 | write22 | write23 | write24 | write25 | write26 | write27 | write28 | write29
      | write2A | write2B | write2C | write2D | write2E =>
    next wc v =>
      refine operationShape_of_mem (wc := wc) (v := v) rfl (.inr (.inl ?_))
      simp [colourWrites]
  case write13 | write14 | write1E | write1F | write2F | write30 | write31 | write32 | write33 | write34
      | write35 | write36 | write37 | write38 | write39 | write3A | write3B | write3C | write3D | write3E
      | write3F =>
    next wc v =>
      refine operationShape_of_mem (wc := wc) (v := v) rfl (.inr (.inr ?_))
      simp [ignoredWrites, ignoredWrites0, ignoredWrites1]
  case write11 wc v => exact .write rfl (.cr1 (v := v)) rfl
  case write12 wc v => exact .write rfl (.raster (v := v)) rfl
  case write16 wc v => exact .write rfl (.cr2 (v := v)) rfl
  case write17 wc v => exact .write rfl (.yxpand (v := v)) rfl
  case write18 wc v => exact .write rfl (.vmcsb (v := v)) rfl
  case write19 wc v => exact .write rfl (.vicirq (v := v)) rfl
  case write1A wc v => exact .write rfl (.irqmask (v := v)) rfl
  case eventAdvance => exact .eventAdvance
  case eventHandlePendingAlarms => exact .eventHandlePendingAlarms
  case eventFetchAlarm => exact .eventFetchAlarm
  case eventDrawAlarm => exact .eventDrawAlarm
  case eventRasterIrqAlarm => exact .eventRasterIrqAlarm
  case eventClockOverflow => exact .eventClockOverflow
  case eventBadlineEval => exact .eventBadlineEval
  case eventFetchMatrix => exact .eventFetchMatrix
  case eventCheckSpriteDma => exact .eventCheckSpriteDma
  case eventFetchSprite => exact .eventFetchSprite
  case eventDrawLine => exact .eventDrawLine
  case eventReset => exact .eventReset
  case eventSnapshotWrite => exact .eventSnapshotWrite
  case eventSnapshotLoad => exact .eventSnapshotLoad
  case eventSetVbank => exact .eventSetVbank
  case eventSetRamBase => exact .eventSetRamBase
  case eventLightpenTrigger => exact .eventLightpenTrigger
  case eventVideoRamStore => exact .eventVideoRamStore

end Sys2Proof.Machine

/-! PROOFS. What the alarms leave alone (41_scheduler.md R144 to R147, 44_renderer.md R200): DRAW_LINE and DRAW_ALARM as
one line drawn and the next begun, and the flush as any number of fetch and draw alarms. -/

namespace Sys2Proof.Machine

/-! DRAW_LINE. -/

theorem length_linePixels (s : State) : s.linePixels.length = 8 * s.cfg.cpl := by
  simp [State.linePixels]

theorem length_drawLine_pixels (s : State) :
    ((latchIdle (updateVerticalBorder s)).linePixels.map fun p => p.out).length = 8 * s.cfg.cpl :=
  (List.length_map _).trans (length_linePixels _)

theorem exec_eventDrawLine (s : State) : exec .eventDrawLine s = .next (drawLine s) := rfl

theorem drawLine_frame (s : State) : drawLine s = { s with
    lines := (drawLine s).lines, changes := (drawLine s).changes, lineStart := (drawLine s).lineStart
    idleData := (drawLine s).idleData, verticalBorder := (drawLine s).verticalBorder
    lineCollisions := (drawLine s).lineCollisions, cache := (drawLine s).cache
    dirtyRange := (drawLine s).dirtyRange } := by
  simp only [drawLine, finishLine, updateCache, latchIdle, updateVerticalBorder]

/-- The line is delivered under the number of the line in progress (44_renderer.md R230). -/
theorem drawLine_lines (s : State) : (drawLine s).lines = s.lines ++
    [{ line := s.currentLine, pixels := (latchIdle (updateVerticalBorder s)).linePixels.map fun p => p.out }] := by
  rw [drawLine]; rfl

theorem drawLine_changes (s : State) : (drawLine s).changes = [] := by
  rw [drawLine]; rfl

theorem drawLine_lineStart (s : State) : (drawLine s).lineStart = s.renderEnd := by
  rw [drawLine]; rfl

theorem drawLine_idleData (s : State) :
    (drawLine s).idleData = if s.idleState then s.phi1Read s.idleAddr else s.idleData := by
  rw [drawLine]; rfl

theorem drawLine_verticalBorder (s : State) : (drawLine s).verticalBorder =
    if s.currentLine = s.borderTop ∧ s.blank = false then false
    else if s.currentLine = s.borderBottom + 1 then true else s.verticalBorder := by
  rw [drawLine]; rfl

/-- Settles O38: the drawing field by field, and a line has a pixel for each raster X. -/
theorem drawLineDeliversOneLine : Obligations.DrawLineDeliversOneLine := fun s =>
  ⟨drawLine s, _, exec_eventDrawLine s, drawLine_lines s, length_drawLine_pixels s, drawLine_changes s,
    drawLine_lineStart s, drawLine_idleData s, drawLine_verticalBorder s, drawLine_frame s⟩

/-! DRAW_ALARM. -/

/-- The state with what a draw alarm may write taken from `t` (41_scheduler.md R147 to R150, 60_exceptions.md R260,
R261). -/
def State.withDrawn (s t : State) : State :=
  { s with
    currentLine := t.currentLine, drawClk := t.drawClk, badLine := t.badLine, spriteDmaMask := t.spriteDmaMask
    sprites := t.sprites, clkOrigin := t.clkOrigin, lightPen := t.lightPen, memptr := t.memptr
    memCounter := t.memCounter, memCounterInc := t.memCounterInc, idleState := t.idleState, ycounter := t.ycounter
    forceDisplayState := t.forceDisplayState, verticalBorder := t.verticalBorder, idleData := t.idleData
    lines := t.lines, lineStart := t.lineStart, changes := t.changes, lineCollisions := t.lineCollisions
    cache := t.cache, dirtyRange := t.dirtyRange, spriteSpriteCollisions := t.spriteSpriteCollisions
    spriteBackgroundCollisions := t.spriteBackgroundCollisions, irqStatus := t.irqStatus, irqLine := t.irqLine }

theorem withDrawn_trans {s t u : State} (hst : t = s.withDrawn t) (htu : u = t.withDrawn u) : u = s.withDrawn u := by
  rw [htu, hst]; rfl

theorem drawLine_eq_withDrawn (s : State) : drawLine s = s.withDrawn (drawLine s) := by
  have hframe := drawLine_frame s
  generalize drawLine s = t at hframe ⊢
  rw [hframe]; rfl

theorem spriteSpriteIrq_eq_withDrawn (m : Byte) (s : State) :
    spriteSpriteIrq m s = s.withDrawn (spriteSpriteIrq m s) := by
  rw [spriteSpriteIrq]
  split
  · rfl
  · split <;> rfl

theorem spriteBackgroundIrq_eq_withDrawn (m : Byte) (s : State) :
    spriteBackgroundIrq m s = s.withDrawn (spriteBackgroundIrq m s) := by
  rw [spriteBackgroundIrq]
  split
  · rfl
  · split <;> rfl

theorem collisionIrqs_eq_withDrawn (s : State) : collisionIrqs s = s.withDrawn (collisionIrqs s) :=
  withDrawn_trans (spriteSpriteIrq_eq_withDrawn _ s) (spriteBackgroundIrq_eq_withDrawn _ _)

theorem beginNextLine_eq_withDrawn (s : State) : beginNextLine s = s.withDrawn (beginNextLine s) := by
  rw [beginNextLine, ite_vsync_eq, lineCounters_eq]
  rfl

theorem drawAlarm_eq_withDrawn (s : State) : drawAlarm s = s.withDrawn (drawAlarm s) :=
  withDrawn_trans (withDrawn_trans (drawLine_eq_withDrawn s) (collisionIrqs_eq_withDrawn _))
    (beginNextLine_eq_withDrawn _)

/-- The beginning of the next line, as one update of the state (41_scheduler.md R147 to R150). -/
theorem beginNextLine_eq (s : State) : beginNextLine s =
    let wraps := s.nextLine = 0#16
    { lineCounters { s with
        memptr := if wraps then 0 else s.memptr
        memCounter := if wraps then 0 else s.memCounter } with
      spriteDmaMask := s.newSpriteDmaMask
      sprites := Vector.ofFn fun i : SpriteNo => { s.sprites[i] with data := s.sprites[i].dataNext }
      currentLine := s.nextLine
      clkOrigin := if wraps then later s.clkOrigin s.cfg.frame else s.clkOrigin
      lightPen := if wraps then { s.lightPen with triggered := false } else s.lightPen
      badLine := false
      drawClk := later s.drawClk s.cfg.cpl } := by
  simp only [beginNextLine, ite_vsync_eq, lineCounters_eq, shiftSprites]

theorem screenHeight_le (c : Config) : c.screenHeight ≤ 312 := by
  rw [Config.screenHeight]
  cases c.std <;> decide

theorem screenHeight_pos (c : Config) : 0 < c.screenHeight := by
  rw [Config.screenHeight]
  cases c.std <;> decide

theorem nextLine_toNat (s : State) : s.nextLine.toNat = (s.currentLine.toNat + 1) % s.cfg.screenHeight := by
  have hlt : (s.currentLine.toNat + 1) % s.cfg.screenHeight < s.cfg.screenHeight := Nat.mod_lt _ (screenHeight_pos _)
  have hle := screenHeight_le s.cfg.toConfig
  rw [State.nextLine, BitVec.toNat_ofNat, Nat.mod_eq_of_lt (by omega)]

theorem exec_eventDrawAlarm (s : State) : exec .eventDrawAlarm s = .next (drawAlarm s) := rfl

/-- Settles O28: after the drawing, the collisions and the counters leave alone what the drawing wrote, and the rest is
`beginNextLine_eq`. -/
theorem drawAlarmBeginsTheNextLine : Obligations.DrawAlarmBeginsTheNextLine := by
  intro s
  refine ⟨drawLine s, drawAlarm s, exec_eventDrawLine s, exec_eventDrawAlarm s, ?_⟩
  have hdrawn : drawAlarm s = beginNextLine (collisionIrqs (drawLine s)) := rfl
  have hnext : (collisionIrqs (drawLine s)).nextLine = s.nextLine := collisionIrqs_drawLine_nextLine s
  have hline : (drawAlarm s).currentLine = s.nextLine := drawAlarm_currentLine s
  refine ⟨?lines, ?changes, ?lineStart, ?verticalBorder, ?idleData, ?lineCollisions, ?cache, ?dirtyRange, ?currentLine,
    ?drawClk, ?badLine, ?spriteDmaMask, ?sprites, ?clkOrigin, ?lightPen, drawAlarm_eq_withDrawn s⟩
  case currentLine => rw [hline, nextLine_toNat]
  case lightPen =>
    rw [hline]
    by_cases hwrap : s.nextLine = 0#16 <;> simp [hdrawn, beginNextLine_eq, hnext, hwrap]
  case clkOrigin =>
    rw [hline]
    simp [hdrawn, beginNextLine_eq, hnext, later]
  case drawClk | badLine | spriteDmaMask | sprites => simp [hdrawn, beginNextLine_eq, later]
  all_goals simp [hdrawn]

/-! The flush. -/

/-- The state with what a fetch or a draw alarm may write taken from `t` (41_scheduler.md R146, R147). -/
def State.withServed (s t : State) : State :=
  { s.withDrawn t with
    clk := t.clk, fetchClk := t.fetchClk, fetchIdx := t.fetchIdx, spriteFetchMsk := t.spriteFetchMsk
    spriteFetchIdx := t.spriteFetchIdx, spriteFetchBase := t.spriteFetchBase, allowBadLines := t.allowBadLines
    vbuf := t.vbuf, cbuf := t.cbuf, backgroundColorSource := t.backgroundColorSource
    newSpriteDmaMask := t.newSpriteDmaMask, stolenCycles := t.stolenCycles }

theorem withServed_trans {s t u : State} (hst : t = s.withServed t) (htu : u = t.withServed u) :
    u = s.withServed u := by
  rw [htu, hst]; rfl

theorem withServed_of_withDrawn {s t : State} (h : t = s.withDrawn t) : t = s.withServed t := by
  rw [h]; rfl

theorem fetchAlarm_eq_withServed {s t : State} (h : fetchAlarm s = .ok t) : t = s.withServed t := by
  rw [fetchAlarm_frame h]; rfl

theorem drawAlarm_eq_withServed (s : State) : drawAlarm s = s.withServed (drawAlarm s) :=
  withServed_of_withDrawn (drawAlarm_eq_withDrawn s)

theorem flush_eq_withServed {wc : Nat} {s t : State} (h : flush wc s = .ok t) : t = s.withServed t :=
  flushLoop_induct (P := fun u => u = s.withServed u)
    (fun _ _ hu hv => withServed_trans hu (fetchAlarm_eq_withServed hv))
    (fun _ hu => withServed_trans hu (drawAlarm_eq_withServed _)) _ _ s t rfl h

/-- Settles O21: the flush writes at most what `State.withServed` names. -/
theorem flushLeavesTheRegisterFile : Obligations.FlushLeavesTheRegisterFile := by
  intro wc s t h
  rw [flush_eq_withServed h]
  and_intros <;> intros <;> rfl

end Sys2Proof.Machine

/-! PROOFS. What every step keeps, packaged once: a condition that each part of an operation keeps is kept by every
operation and by every step. -/

namespace Sys2Proof.Machine

/-- The condition is kept by each part that operations are made of: the alarms, the effects of READ, PEEK and WRITE
after the flush, those of the EVENTs, and the taking of a request with its answer on the bus. -/
structure KeptByParts (P : State → Prop) : Prop where
  fetchAlarm {s t : State} : P s → fetchAlarm s = .ok t → P t
  drawAlarm {s : State} : P s → P (drawAlarm s)
  rasterIrqAlarm {s : State} : P s → P (rasterIrqAlarm s)
  read {after : State → State} {s : State} {v : Byte} : ReadEffect after → P s → P ((after s).returnRead v)
  peek {s : State} {v : Byte} : P s → P (s.returnPeek v)
  write {wc : BitVec 2} {v : Byte} {effect : State → Except Fault State} {s t : State} :
    WriteEffect wc v effect → P s → effect s = .ok t → P t
  clockOverflow {sub : Clock} {s t : State} : P s → clockOverflow sub s = .ok t → P t
  badlineEval {old new : Byte} {y c : Nat} {s t : State} : P s → badlineEval old new y c s = .ok t → P t
  fetchMatrix {offset count : Int} {s t : State} : P s → fetchMatrix offset count s = .ok t → P t
  checkSpriteDma {s : State} : P s → P (checkSpriteDma s)
  fetchSprite {s t : State} : P s → fetchSprite s = .ok t → P t
  drawLine {s : State} : P s → P (drawLine s)
  resetBlock {s : State} : P s → P (resetBlock s)
  snapshotOut {s : State} {o : Option Snapshot} : P s → P { s with snapshotOut := o }
  snapshotLoad {v : Version} {b : List Byte} {s : State} : P s → P (snapshotLoad v b s)
  setVbank {phi1 phi2 : Addr} {s : State} : bankWellFormed phi1 = true → bankWellFormed phi2 = true → P s →
    P (setVbank phi1 phi2 s)
  setRamBase {off : BitVec 32} {s : State} : P s → P (setRamBase off s)
  lightpenTrigger {s : State} : P s → P (lightpenTrigger s)
  videoRamStore {space : StoreSpace} {a : Addr} {v : Byte} {s : State} : P s → P (videoRamStore space a v s)
  accept {s : State} {r : Request} {rest : List Request} : P s → P (s.accept r rest)
  present {f : WordFields} {s : State} : P s → P (s.present f)

section
variable {P : State → Prop}

theorem flush_keeps (hfetch : ∀ s t, P s → fetchAlarm s = .ok t → P t) (hdraw : ∀ s, P s → P (drawAlarm s)) {wc : Nat}
    {s t : State} (hs : P s) (h : flush wc s = .ok t) : P t :=
  flushLoop_induct hfetch hdraw _ wc s t hs h

theorem advance_keeps (hfetch : ∀ s t, P s → fetchAlarm s = .ok t → P t) (hdraw : ∀ s, P s → P (drawAlarm s))
    (hraster : ∀ s, P s → P (rasterIrqAlarm s)) {s t : State} (hs : P s) (h : advance s = .ok t) : P t :=
  advanceLoop_induct hfetch hdraw hraster _ s t hs h

namespace KeptByParts
variable (k : KeptByParts P)
include k

theorem flush {wc : Nat} {s t : State} (hs : P s) (h : flush wc s = .ok t) : P t :=
  flush_keeps (fun _ _ => k.fetchAlarm) (fun _ => k.drawAlarm) hs h

theorem advance {s t : State} (hs : P s) (h : advance s = .ok t) : P t :=
  advance_keeps (fun _ _ => k.fetchAlarm) (fun _ => k.drawAlarm) (fun _ => k.rasterIrqAlarm) hs h

/-- The condition is kept by an operation that begins with the flush, if what follows the flush keeps it. -/
theorem afterFlush {f : State → Except Fault State} (hf : ∀ {u t}, P u → f u = .ok t → P t) {s t : State} (hs : P s)
    (h : afterFlush f s = .next t) : P t := by
  obtain ⟨s1, hflush, hf1⟩ := bind_eq_ok.1 (answer_eq_next.1 h)
  exact hf (k.flush hs hflush) hf1

theorem afterFlush_total {f : State → State} (hf : ∀ {u}, P u → P (f u)) {s t : State} (hs : P s)
    (h : Machine.afterFlush (fun u => .ok (f u)) s = .next t) : P t :=
  k.afterFlush (fun hu he => by cases he; exact hf hu) hs h

theorem exec {i : Instr} {s t : State} (hs : P s) (h : exec i s = .next t) : P t := by
  cases operationShape i with
  | read hexec hafter =>
    rw [hexec] at h
    obtain ⟨s1, hflush, rfl⟩ := map_eq_ok.1 (answer_eq_next.1 h)
    exact k.read hafter (k.flush hs hflush)
  | peek hexec =>
    rw [hexec] at h
    cases h
    exact k.peek hs
  | write hexec heffect =>
    rw [hexec] at h
    obtain ⟨s1, hflush, hwrite⟩ := bind_eq_ok.1 (answer_eq_next.1 h)
    exact k.write heffect (k.flush hs hflush) hwrite
  | eventAdvance => exact k.advance hs (answer_eq_next.1 h)
  | eventHandlePendingAlarms => exact k.flush hs (answer_eq_next.1 h)
  | eventFetchAlarm => exact k.fetchAlarm hs (answer_eq_next.1 h)
  | eventDrawAlarm => cases h; exact k.drawAlarm hs
  | eventRasterIrqAlarm => cases h; exact k.rasterIrqAlarm hs
  | eventClockOverflow => exact k.afterFlush k.clockOverflow hs h
  | eventBadlineEval => exact k.badlineEval hs (answer_eq_next.1 h)
  | eventFetchMatrix => exact k.fetchMatrix hs (answer_eq_next.1 h)
  | eventCheckSpriteDma => cases h; exact k.checkSpriteDma hs
  | eventFetchSprite => exact k.fetchSprite hs (answer_eq_next.1 h)
  | eventDrawLine => cases h; exact k.drawLine hs
  | eventReset => cases h; exact k.resetBlock hs
  | eventSnapshotWrite =>
    obtain ⟨s1, hadvance, rfl⟩ := map_eq_ok.1 (answer_eq_next.1 h)
    exact k.snapshotOut (k.advance hs hadvance)
  | eventSnapshotLoad => cases h; exact k.snapshotLoad hs
  | eventSetVbank =>
    change execEventSetVbank s = .next t at h
    rw [execEventSetVbank] at h
    split at h
    case isTrue hbanks =>
      obtain ⟨h1, h2⟩ := Bool.and_eq_true_iff.1 hbanks
      exact k.afterFlush_total (k.setVbank h1 h2) hs h
    case isFalse => cases h
  | eventSetRamBase => exact k.afterFlush_total k.setRamBase hs h
  | eventLightpenTrigger => exact k.afterFlush_total k.lightpenTrigger hs h
  | eventVideoRamStore => exact k.afterFlush_total k.videoRamStore hs h

end KeptByParts

/-- A step with a request in the inbox that ends in a state is an operation on the state that has accepted the request,
its read data then placed on the bus. -/
theorem step_cases {s t : State} (h : step s = .next t) :
    t = s ∨ ∃ r rest i t1, s.inbox = r :: rest ∧ exec i (s.accept r rest) = .next t1 ∧
      t = t1.present (splitWord (s.busWord r.word)) := by
  rw [step] at h
  split at h
  case h_1 => cases h; exact .inl rfl
  case h_2 r rest hinbox =>
    cases hdecode : decode (s.busWord r.word) with
    | error e => rw [hdecode] at h; cases h
    | ok i =>
      rw [hdecode, runDecoded] at h
      cases hexec : exec i (s.accept r rest) with
      | next t1 => rw [hexec] at h; cases h; exact .inr ⟨r, rest, i, t1, hinbox, hexec, rfl⟩
      | fault e => rw [hexec] at h; cases h
      | refused e => rw [hexec] at h; cases h

theorem KeptByParts.step (k : KeptByParts P) {s t : State} (hs : P s) (h : step s = .next t) : P t := by
  obtain rfl | ⟨r, rest, i, t1, -, hexec, rfl⟩ := step_cases h
  · exact hs
  · exact k.present (k.exec (k.accept hs) hexec)

end

end Sys2Proof.Machine

/-! PROOFS. BADLINE_EVAL in the fetch window (42_badline.md R164 to R166) as one update of the state; it never stops,
and so neither does WRITE 11 (40_register_file.md R88). -/

namespace Sys2Proof.Machine

/-! A forced fetch. -/

/-- What a line that becomes bad in the window fetches lies within the row, and so does its increment (42_badline.md
R164). -/
theorem forcedFetch_bounds {s : State} {c : Nat} (hc : c < s.window1) :
    (s.forcedFetch c).pos + (s.forcedFetch c).num ≤ 40 ∧ (s.forcedFetch c).inc ≤ 40 := by
  have hw : s.window1 = s.column0 + 40 := rfl
  rw [State.forcedFetch]
  simp only [textCols]
  split
  · split <;> simp only <;> omega
  · simp

/-- The cycles of the window from `c` on are the columns after the first, less the columns passed (42_badline.md
R164). -/
theorem windowLeft_eq {s : State} {c : Nat} (hc : c < s.window1) :
    (textCols : Int) - ((c : Int) - s.column0) = ((s.window1 - c : Nat) : Int) := by
  have hw : s.window1 = s.column0 + textCols := rfl
  omega

/-- A copy of no columns changes nothing. -/
theorem fetchColumns_zero (offset : Nat) (s : State) : fetchColumns offset 0 s = s := by
  have hempty : ∀ c : Nat, ¬(offset ≤ c ∧ c < offset) := fun c => by omega
  simp [fetchColumns, hempty]

/-- The state after a forced fetch `f` that begins at cycle `c` (42_badline.md R164, R166). -/
def State.afterForcedFetch (s : State) (c : Nat) (f : ForcedFetch) : State :=
  let k := min f.num f.nff
  { fetchColumns (f.pos + k) (f.num - k) (preFetch f.pos k { s with
      badLine := true
      ycounter := if c ≤ s.window0 + 2 then 0 else s.ycounter
      clk := later s.clk (s.window1 - c)
      stolenCycles := s.stolenCycles + (s.window1 - c)
      memCounter := s.memptr }) with
    memCounterInc := BitVec.ofNat 8 f.inc
    idleState := false }

theorem becomesBadInWindow_eq {s : State} {c : Nat} (hc : c < s.window1) :
    becomesBadInWindow c s = .ok (s.afterForcedFetch c (s.forcedFetch c)) := by
  obtain ⟨hrow, -⟩ := forcedFetch_bounds hc
  rw [becomesBadInWindow, windowLeft_eq hc, State.afterForcedFetch]
  generalize s.forcedFetch c = f at hrow
  simp only [steal_ofNat, bind, Except.bind]
  split
  case isTrue hlt =>
    rw [fetchMatrix_ofNat _ _ _ (by omega), Nat.min_eq_right hlt.le]
  case isFalse hle =>
    rw [Nat.min_eq_left (Nat.not_lt.1 hle), Nat.sub_self, fetchColumns_zero]

/-! BADLINE_EVAL in every case. -/

/-- LINE_BECOMES_BAD answers at every cycle. -/
theorem lineBecomesBad_ok (c : Nat) (s : State) : ∃ t, lineBecomesBad c s = .ok t ∧
    (t.memCounterInc.toNat ≤ 40 ∨ t.memCounterInc = s.memCounterInc) := by
  obtain hbefore | hfrom := Nat.lt_or_ge c s.window0
  · exact ⟨_, lineBecomesBad_beforeWindow hbefore, .inr rfl⟩
  · obtain hin | hafter := Nat.lt_or_ge c s.window1
    · refine ⟨_, (lineBecomesBad_inWindow hfrom hin).trans (becomesBadInWindow_eq hin), .inl ?_⟩
      obtain ⟨-, hinc⟩ := forcedFetch_bounds hin
      show (BitVec.ofNat 8 (s.forcedFetch c).inc).toNat ≤ 40
      exact (BitVec.toNat_ofNat ..).trans_le ((Nat.mod_le _ _).trans hinc)
    · refine ⟨_, lineBecomesBad_afterWindow hafter, ?_⟩
      cases hidle : s.idleState <;> simp

/-- BADLINE_EVAL answers for all operands, with an increment in its range (42_badline.md R161 to R168, 10_state.md
R19). -/
theorem badlineEval_ok (old new : Byte) (y c : Nat) (s : State) : ∃ t, badlineEval old new y c s = .ok t ∧
    (t.memCounterInc.toNat ≤ 40 ∨ t.memCounterInc = s.memCounterInc) := by
  cases hold : badLineCondition s.cfg.toConfig old y <;> cases hnew : badLineCondition s.cfg.toConfig new y
  case false.true =>
    rw [badlineEval_of_becomesBad c hold hnew]
    exact lineBecomesBad_ok c _
  case true.false => exact ⟨_, badlineEval_of_becomesGood c hold hnew, .inr rfl⟩
  all_goals exact ⟨_, badlineEval_of_same c (hold.trans hnew.symm), .inr rfl⟩

/-! The columns that a line becoming bad in the window fills. -/

/-- The formulas of 42_badline.md R164, without the bound that the last column puts on the first. -/
theorem forcedFetch_eq {s : State} {c : Nat} (hc : c < s.window1) : s.forcedFetch c =
    { pos := if s.column0 ≤ c ∧ s.idleState = false then c - s.column0 else 0
      num := if s.column0 ≤ c then s.window1 - c else textCols
      nff := if s.column0 ≤ c then s.cfg.baLead else c - s.window0
      inc := if s.column0 ≤ c ∧ s.idleState = true then c - s.column0 else textCols } := by
  have hw : s.window1 = s.column0 + textCols := rfl
  have hnum : textCols - (c - s.column0) = s.window1 - c ∨ c < s.column0 := by omega
  have hpos : min (c - s.column0) (textCols - 1) = c - s.column0 := by omega
  rw [State.forcedFetch]
  by_cases hcol : s.column0 ≤ c
  case pos =>
    have hnum : textCols - (c - s.column0) = s.window1 - c := by omega
    cases hidle : s.idleState <;> simp [hcol, hnum, hpos]
  case neg => simp [hcol]

theorem afterForcedFetch_vbuf (s : State) (c : Nat) (f : ForcedFetch) (col : Fin 40) :
    (s.afterForcedFetch c f).vbuf[col] =
      if f.pos + min f.num f.nff ≤ col.val ∧ col.val < f.pos + min f.num f.nff + (f.num - min f.num f.nff) then
        s.matrixByte (s.memptr + BitVec.ofNat 10 col.val)
      else if f.pos ≤ col.val ∧ col.val < f.pos + min f.num f.nff then 0xFF#8
      else s.vbuf[col] := by
  simp [State.afterForcedFetch, fetchColumns, preFetch]
  rfl

theorem afterForcedFetch_cbuf (s : State) (c : Nat) (f : ForcedFetch) (col : Fin 40) :
    (s.afterForcedFetch c f).cbuf[col] =
      if f.pos + min f.num f.nff ≤ col.val ∧ col.val < f.pos + min f.num f.nff + (f.num - min f.num f.nff) then
        s.colorByte (s.memptr + BitVec.ofNat 10 col.val)
      else if f.pos ≤ col.val ∧ col.val < f.pos + min f.num f.nff then
        (Config.freeNibble (s.draws + (col.val - f.pos))).setWidth 8
      else s.cbuf[col] := by
  simp [State.afterForcedFetch, fetchColumns, preFetch]
  rfl

theorem nibble_and_high (k : BitVec 4) : k.setWidth 8 &&& 0xF0#8 = 0 := by
  revert k
  decide

/-- The columns after a forced fetch: the 0xFF columns first, those from the matrix after them, the others as they were
(42_badline.md R164, R165). -/
theorem afterForcedFetch_columns (s : State) (c : Nat) (f : ForcedFetch) (col : Fin 40) :
    let t := s.afterForcedFetch c f
    let k := min f.num f.nff
    (f.pos ≤ col.val → col.val < f.pos + k → t.vbuf[col] = 0xFF#8 ∧ t.cbuf[col] &&& 0xF0#8 = 0) ∧
      (f.pos + k ≤ col.val → col.val < f.pos + f.num →
        t.vbuf[col] = s.matrixByte (s.memptr + BitVec.ofNat 10 col.val) ∧
        t.cbuf[col] = s.colorByte (s.memptr + BitVec.ofNat 10 col.val)) ∧
      (col.val < f.pos ∨ f.pos + f.num ≤ col.val → t.vbuf[col] = s.vbuf[col] ∧ t.cbuf[col] = s.cbuf[col]) := by
  dsimp only
  rw [afterForcedFetch_vbuf, afterForcedFetch_cbuf]
  refine ⟨fun h0 h1 => ?_, fun h0 h1 => ?_, fun h => ?_⟩
  · rw [if_neg (by omega), if_pos ⟨h0, h1⟩, if_neg (by omega), if_pos ⟨h0, h1⟩]
    exact ⟨rfl, nibble_and_high _⟩
  · rw [if_pos (by omega), if_pos (by omega)]
    exact ⟨rfl, rfl⟩
  · rw [if_neg (by omega), if_neg (by omega), if_neg (by omega), if_neg (by omega)]
    exact ⟨rfl, rfl⟩

/-- What a forced fetch changes beside the columns; the last column fetched is the background colour source
(43_fetch.md R176). -/
theorem afterForcedFetch_eq (s : State) (c : Nat) (f : ForcedFetch) : s.afterForcedFetch c f = { s with
    badLine := true
    ycounter := if c ≤ s.window0 + 2 then 0 else s.ycounter
    memCounter := s.memptr
    memCounterInc := BitVec.ofNat 8 f.inc
    idleState := false
    clk := later s.clk (s.window1 - c)
    stolenCycles := s.stolenCycles + (s.window1 - c)
    vbuf := (s.afterForcedFetch c f).vbuf
    cbuf := (s.afterForcedFetch c f).cbuf
    backgroundColorSource :=
      if min f.num f.nff < f.num then s.matrixByte (s.memptr + BitVec.ofNat 10 (f.pos + f.num - 1))
      else s.backgroundColorSource
    draws := s.draws + min f.num f.nff } := by
  have hcols : f.pos + min f.num f.nff + (f.num - min f.num f.nff) = f.pos + f.num := by omega
  simp only [State.afterForcedFetch, fetchColumns, preFetch, hcols, Nat.sub_pos_iff_lt]
  rfl

/-- Settles O35: the state after the forced fetch of `forcedFetch_eq`, column by column. -/
theorem becomingBadInTheWindowFetches : Obligations.BecomingBadInTheWindowFetches := by
  intro s
  dsimp only
  intro hold hnew h0 h1
  let s0 : State := { s with allowBadLines := s.operands.newCr.getLsbD 4 }
  have hforced := forcedFetch_eq (s := s0) h1
  refine ⟨s0.afterForcedFetch s.operands.cycle (s0.forcedFetch s.operands.cycle), ?answer, ?frame, fun col => ?columns⟩
  case answer =>
    rw [exec_eventBadlineEval, badlineEval_of_becomesBad _ hold hnew, lineBecomesBad_inWindow (s := s0) h0 h1,
      becomesBadInWindow_eq (s := s0) h1]
    rfl
  case frame =>
    refine (afterForcedFetch_eq s0 _ _).trans ?_
    rw [hforced]
    simp only [apply_ite (BitVec.ofNat 8)]
    rfl
  case columns =>
    have hcolumns := afterForcedFetch_columns s0 s.operands.cycle (s0.forcedFetch s.operands.cycle) col
    rw [hforced] at hcolumns ⊢
    exact hcolumns

/-! WRITE 11. -/

/-- WRITE 11 up to the bad-line evaluation, its queued change written out (40_register_file.md R88). -/
theorem storeCr1_eq (v : Byte) (s : State) : storeCr1 v s =
    { updateRasterCompare { s with regs := s.regs.set 0x11 v } with
      blank := !v.getLsbD 4
      borderTop := (s.cfg.rows (v.getLsbD 3)).1
      borderBottom := (s.cfg.rows (v.getLsbD 3)).2
      videoMode := modeOfRegs v (s.reg 0x16)
      changes := s.changes ++
        if v.extractLsb' 5 2 = (s.reg 0x11).extractLsb' 5 2 then []
        else [⟨s.triggerX s.clk, .videoMode (modeOfRegs v (s.reg 0x16))⟩] } := by
  rw [storeCr1, addChangeIf_bne]
  simp [State.triggerX, State.setReg]

theorem armRasterCompare_rasterIrqLine (s : State) :
    (armRasterCompare s).rasterIrqLine = compareLine (s.reg 0x11) (s.reg 0x12) := by
  rw [armRasterCompare]
  split <;> rfl

theorem updateRasterCompare_rasterIrqLine (s : State) :
    (updateRasterCompare s).rasterIrqLine = compareLine (s.reg 0x11) (s.reg 0x12) := by
  rw [updateRasterCompare]
  split
  · exact armRasterCompare_rasterIrqLine s
  · exact armRasterCompare_rasterIrqLine s

/-- What WRITE 11 leaves in the fields that BADLINE_EVAL leaves alone, or sets from the byte (40_register_file.md
R88). -/
def Cr1Fields (v : Byte) (s t : State) : Prop :=
  t.regs = s.regs.set 0x11 v ∧ t.allowBadLines = v.getLsbD 4 ∧ t.blank = !v.getLsbD 4 ∧
    t.rasterIrqLine = compareLine v (s.reg 0x12) ∧ t.lastRead = s.lastRead ∧
    (∀ a, t.ramByte a = s.ramByte a) ∧ ∀ a, t.colorByte a = s.colorByte a

theorem writeCr1_result (v : Byte) (s : State) : ∃ t, writeCr1 v s = .ok t ∧ Cr1Fields v s t := by
  obtain ⟨t, heval, -⟩ := badlineEval_ok (s.reg 0x11) v s.lineNow s.cycleNow (storeCr1 v s)
  refine ⟨t, heval, ?_⟩
  have hallow := badlineEval_allowBadLines heval
  have hline : compareLine v (s.reg 0x12) = compareLine ((s.setReg 0x11 v).reg 0x11) ((s.setReg 0x11 v).reg 0x12) := by
    rw [reg_setReg, reg_setReg, if_pos rfl, if_neg (by decide)]
  have hcompare : (updateRasterCompare (s.setReg 0x11 v)).rasterIrqLine = compareLine v (s.reg 0x12) := by
    rw [updateRasterCompare_rasterIrqLine, hline]
  rw [badlineEval_frame heval, storeCr1_eq]
  refine ⟨updateRasterCompare_regs _, hallow, rfl, hcompare, updateRasterCompare_lastRead _, fun a => ?_, fun a => ?_⟩
  · simp [State.ramByte]
  · simp [State.colorByte]

/-- Settles O17: `writeCr1_result` on the state that the flush left. -/
theorem writeControlRegister1 : Obligations.WriteControlRegister1 := by
  intro wc v
  have hexec : ∀ s, exec (.write11 wc v) s = answer ((flush wc.toNat s).bind (writeCr1 v)) := fun _ => rfl
  have hresult : ∀ s s1, flush wc.toNat s = .ok s1 →
      ∃ t, exec (.write11 wc v) s = .next t ∧ writeCr1 v s1 = .ok t ∧ Cr1Fields v s1 t := by
    intro s s1 hflush
    obtain ⟨t, hwrite, hfields⟩ := writeCr1_result v s1
    refine ⟨t, ?_, hwrite, hfields⟩
    rw [hexec, hflush]
    exact congrArg answer hwrite
  simp only [writeCr1, storeCr1_eq] at hresult
  refine ⟨hresult, fun s e hflush => ?_, fun s hquiet => hresult s s (flush_of_quiet hquiet)⟩
  rw [hexec, hflush]
  rfl

end Sys2Proof.Machine

/-! PROOFS. FETCH_ALARM in each of its states (41_scheduler.md R146): the matrix fetch (42_badline.md R169), the
sprite check (43_fetch.md R180) and the tuples of a sprite list (43_fetch.md R183 to R187) in a checked configuration.
-/

namespace Sys2Proof.Machine

/-! A checked configuration. -/

theorem wellFormed_iff (c : Config) : c.wellFormed = true ↔
    cyclesWellFormed c = true ∧ c.displayX0 + 320 ≤ 8 * c.cpl ∧ regmapWellFormed c = true ∧ bitmapWellFormed c = true ∧
      c.always1.length = 64 ∧ c.crunchTable.length = 64 ∧ c.spriteFetchTable.length = 256 ∧
      fetchTableWellFormed c 0 c.spriteFetchTable = true := by
  simp only [Config.wellFormed, Bool.and_eq_true, decide_eq_true_eq, and_assoc]

theorem regmapWellFormed_of_checked (c : CheckedConfig) : regmapWellFormed c.toConfig = true := by
  obtain ⟨-, -, h, -⟩ := (wellFormed_iff _).1 c.ok
  exact h

theorem bitmapWellFormed_of_checked (c : CheckedConfig) : bitmapWellFormed c.toConfig = true := by
  obtain ⟨-, -, -, h, -⟩ := (wellFormed_iff _).1 c.ok
  exact h

/-- The cycle of the draw alarm is one of the line (41_scheduler.md R146, R147). -/
theorem drawCycle_lt_cpl (c : CheckedConfig) : c.drawCycle < c.cpl := by
  obtain ⟨h, -⟩ := (wellFormed_iff _).1 c.ok
  simp only [cyclesWellFormed, Bool.and_eq_true, decide_eq_true_eq] at h
  omega

theorem fetchListWellFormed_getElem {c : Config} {l : List (List FetchTuple)} {m : Nat}
    (h : fetchTableWellFormed c m l = true) (k : Nat) (hk : k < l.length) :
    fetchListWellFormed c (m + k) l[k] = true := by
  induction l generalizing m k with
  | nil => exact absurd hk (Nat.not_lt_zero k)
  | cons a rest ih =>
    obtain ⟨hhead, hrest⟩ := Bool.and_eq_true_iff.1 h
    cases k with
    | zero => exact hhead
    | succ k =>
      have := ih hrest k (by simpa using hk)
      rwa [Nat.add_assoc, Nat.add_comm 1 k] at this

theorem fetchList_wellFormed (c : CheckedConfig) (m : Byte) :
    fetchListWellFormed c.toConfig m.toNat (c.fetchList m) = true := by
  obtain ⟨-, -, -, -, -, -, hlength, htable⟩ := (wellFormed_iff _).1 c.ok
  have hm : m.toNat < c.spriteFetchTable.length := m.isLt.trans_eq hlength.symm
  have hentry := fetchListWellFormed_getElem htable m.toNat hm
  rwa [Nat.zero_add, ← List.getD_eq_getElem _ [] hm] at hentry

theorem exists_bit_of_ne_zero {m : Byte} (h : m ≠ 0#8) : ∃ i : SpriteNo, m.getLsbD i.val = true := by
  by_contra hnone
  refine h (BitVec.eq_of_getLsbD_eq fun i hi => ?_)
  rw [BitVec.getLsbD_zero, ← Bool.not_eq_true]
  exact fun hbit => hnone ⟨⟨i, hi⟩, hbit⟩

/-- A sprite of the mask is in a tuple of the mask's list, so the list of a mask that is not 0 has a first tuple
(43_fetch.md R183). -/
theorem fetchList_ne_nil (c : CheckedConfig) {m : Byte} (h : m ≠ 0#8) : c.fetchList m ≠ [] := by
  obtain ⟨i, hi⟩ := exists_bit_of_ne_zero h
  have hwf := fetchList_wellFormed c m
  simp only [fetchListWellFormed, Bool.and_eq_true, List.all_eq_true] at hwf
  obtain ⟨⟨⟨⟨-, hcovered⟩, -⟩, -⟩, -⟩ := hwf
  have hmem : i ∈ spriteNumbers := mem_spriteNumbers i
  intro hnil
  have hi' : m.toNat.testBit i.val = true := hi
  simpa [hnil, coveredOnce, hi'] using hcovered i hmem

/-! State FETCH_MATRIX. -/

section
variable {s : State}

theorem badlineAtFetch_of_good {t : Clock}
    (h : badLineCondition s.cfg.toConfig (s.reg 0x11) (s.rasterY t.toNat) = false) :
    badlineAtFetch t s =
      .ok { s with allowBadLines := (s.reg 0x11).getLsbD 4, memCounter := s.memptr, badLine := false } := by
  rw [badlineAtFetch, h]
  rfl

/-- A copy of the whole row (42_badline.md R169, 43_fetch.md R176). -/
theorem fetchColumns_row (s : State) : fetchColumns 0 textCols s = { s with
    vbuf := Vector.ofFn fun c : Fin 40 => s.matrixByte (s.memCounter + BitVec.ofNat 10 c.val)
    cbuf := Vector.ofFn fun c : Fin 40 => s.colorByte (s.memCounter + BitVec.ofNat 10 c.val)
    backgroundColorSource := s.matrixByte (s.memCounter + 39#10) } := by
  have hall : ∀ c : Fin 40, 0 ≤ c.val ∧ c.val < 0 + textCols := fun c => ⟨Nat.zero_le _, by simp [textCols]⟩
  simp only [fetchColumns, hall, and_self, if_true]
  rfl

theorem badlineAtFetch_of_bad {t : Clock}
    (h : badLineCondition s.cfg.toConfig (s.reg 0x11) (s.rasterY t.toNat) = true) :
    badlineAtFetch t s = .ok { s with
      allowBadLines := (s.reg 0x11).getLsbD 4
      memCounter := s.memptr
      badLine := true
      vbuf := Vector.ofFn fun c : Fin 40 => s.matrixByte (s.memptr + BitVec.ofNat 10 c.val)
      cbuf := Vector.ofFn fun c : Fin 40 => s.colorByte (s.memptr + BitVec.ofNat 10 c.val)
      backgroundColorSource := s.matrixByte (s.memptr + 39#10)
      memCounterInc := 40#8
      ycounter := 0
      idleState := false
      clk := later s.clk (textCols + s.cfg.baLead)
      stolenCycles := s.stolenCycles + (textCols + s.cfg.baLead) } := by
  have hrow : ∀ u : State, fetchMatrix 0 textCols u = .ok (fetchColumns 0 textCols u) := fun u =>
    fetchMatrix_ofNat 0 textCols u (by decide)
  rw [badlineAtFetch, if_pos h]
  simp only [hrow, fetchColumns_row, bind, Except.bind, steal_ofNat]
  rfl

/-- Settles O24: the line is not bad, so BADLINE_AT_FETCH only evaluates the flags. -/
theorem fetchAlarmOnAGoodLine : Obligations.FetchAlarmOnAGoodLine := by
  intro s hidx hgood
  rw [exec_eventFetchAlarm_of_fetchMatrix hidx, fetchAlarmMatrix, badlineAtFetch_of_good hgood]
  rfl

/-- Settles O25: on a bad line BADLINE_AT_FETCH copies the row and steals its cycles. -/
theorem fetchAlarmOnABadLine : Obligations.FetchAlarmOnABadLine := by
  intro s hidx hbad
  rw [exec_eventFetchAlarm_of_fetchMatrix hidx, fetchAlarmMatrix, badlineAtFetch_of_bad hbad]
  rfl

/-! State CHECK_SPRITE_DMA. -/

/-- With no sprite active the check goes back to the matrix fetch of the next line (41_scheduler.md R146). -/
theorem fetchAlarmCheck_of_noSprite (h : (checkSpriteDma s).newSpriteDmaMask = 0#8) :
    fetchAlarmCheck s = { checkSpriteDma s with
      fetchIdx := .fetchMatrix
      fetchClk := later (s.lineStartOf s.fetchClk) (s.cfg.cpl + s.cfg.fetchCycle) } :=
  if_neg (not_not_intro h)

/-- With a sprite active the check arms the first tuple of the mask's list (41_scheduler.md R146, 43_fetch.md R184). -/
theorem fetchAlarmCheck_of_sprite (h : (checkSpriteDma s).newSpriteDmaMask ≠ 0#8) :
    ∃ tuple rest, s.cfg.fetchList (checkSpriteDma s).newSpriteDmaMask = tuple :: rest ∧
      fetchAlarmCheck s = { checkSpriteDma s with
        spriteFetchMsk := (checkSpriteDma s).newSpriteDmaMask
        spriteFetchIdx := 0
        spriteFetchBase := later (s.lineStartOf s.fetchClk) s.cfg.spriteFetchCycle
        fetchIdx := .fetchSprite
        fetchClk := offsetBy (later (s.lineStartOf s.fetchClk) s.cfg.spriteFetchCycle) tuple.cycle } := by
  obtain ⟨tuple, rest, hlist⟩ := List.exists_cons_of_ne_nil (fetchList_ne_nil s.cfg h)
  refine ⟨tuple, rest, hlist, (if_pos h).trans ?_⟩
  simp only [firstTupleCycle, hlist]

theorem exec_eventFetchAlarm (s : State) : exec .eventFetchAlarm s = answer (fetchAlarm s) := rfl

theorem fetchAlarm_of_checkSpriteDma (h : s.fetchIdx = .checkSpriteDma) : fetchAlarm s = .ok (fetchAlarmCheck s) := by
  rw [fetchAlarm, h]

theorem fetchAlarm_of_fetchSprite (h : s.fetchIdx = .fetchSprite) : fetchAlarm s = fetchSprite s := by
  rw [fetchAlarm, h]

/-- Settles O26: the two ends of the check, by the new mask. -/
theorem fetchAlarmChecksSprites : Obligations.FetchAlarmChecksSprites := by
  intro s hidx
  refine ⟨checkSpriteDma s, rfl, fun hnone => ?_, fun hsome => ?_⟩
  · rw [exec_eventFetchAlarm, fetchAlarm_of_checkSpriteDma hidx, fetchAlarmCheck_of_noSprite hnone]
    rfl
  · obtain ⟨tuple, rest, hlist, hcheck⟩ := fetchAlarmCheck_of_sprite hsome
    refine ⟨tuple, rest, hlist, ?_⟩
    rw [exec_eventFetchAlarm, fetchAlarm_of_checkSpriteDma hidx, hcheck]
    rfl

/-! State FETCH_SPRITE. -/

theorem nextTuple_of_some {n : FetchTuple} (h : (s.cfg.fetchList s.spriteFetchMsk)[s.spriteFetchIdx + 1]? = some n) :
    nextTuple s = { s with
      spriteFetchIdx := s.spriteFetchIdx + 1
      fetchClk := offsetBy s.spriteFetchBase n.cycle } := by
  rw [nextTuple, h]

theorem nextTuple_of_none (h : (s.cfg.fetchList s.spriteFetchMsk)[s.spriteFetchIdx + 1]? = none) :
    nextTuple s = { s with
      spriteFetchIdx := s.spriteFetchIdx + 1
      fetchIdx := .fetchMatrix
      fetchClk := later s.spriteCheckLine (s.cfg.cpl + s.cfg.fetchCycle) } := by
  rw [nextTuple, h]

/-- The state after a tuple has been fetched and its cycles stolen, before the next is armed (43_fetch.md R185). -/
def State.afterTuple (s : State) (t : FetchTuple) : State :=
  { fetchTupleSprites t s with clk := later s.clk t.num, stolenCycles := s.stolenCycles + t.num }

theorem fetchSprite_of_some {t : FetchTuple} (h : (s.cfg.fetchList s.spriteFetchMsk)[s.spriteFetchIdx]? = some t) :
    fetchSprite s = .ok (nextTuple (s.afterTuple t)) := by
  rw [fetchSprite, h]
  simp only [steal_ofNat]
  rfl

theorem fetchSprite_of_none (h : (s.cfg.fetchList s.spriteFetchMsk)[s.spriteFetchIdx]? = none) :
    fetchSprite s = .error (.assertFail .fetchSpriteIndex) := by
  rw [fetchSprite, h]

theorem nextTuple_frame : nextTuple s = { s with
    spriteFetchIdx := s.spriteFetchIdx + 1, fetchIdx := (nextTuple s).fetchIdx
    fetchClk := (nextTuple s).fetchClk } := by
  rw [nextTuple]
  split <;> rfl

theorem nextTuple_sprites : (nextTuple s).sprites = s.sprites := by
  rw [nextTuple_frame]

theorem fetchAfterDraw_iff : s.fetchAfterDraw = true ↔
    s.spriteFetchBase - BitVec.ofNat 32 s.cfg.spriteFetchCycle + BitVec.ofNat 32 (s.cfg.cpl + s.cfg.drawCycle) <
      s.fetchClk :=
  BitVec.ult_iff_lt

/-- The sprites of the tuple that are in the mask take the bytes fetched, the others stay (43_fetch.md R185). -/
theorem nextTuple_afterTuple_sprites_getElem (t : FetchTuple) (i : SpriteNo) :
    (nextTuple (s.afterTuple t)).sprites[i] =
      if t.first ≤ i ∧ i ≤ t.last ∧ spriteBit s.spriteFetchMsk i = true then
        { s.sprites[i] with
          pointer := s.spritePointerByte i
          dataNext := s.spriteWord i
          data := if s.fetchAfterDraw then s.spriteWord i else s.sprites[i].data }
      else s.sprites[i] := by
  simp only [nextTuple_sprites]
  exact Vector.getElem_ofFn _

end

/-- The offset of a sprite's data byte in its bank: the block of the pointer, and the place in the block modulo 64
(43_fetch.md R185, R187). -/
theorem spriteOffset_eq (p : Byte) (m : BitVec 6) (k : Nat) :
    p.setWidth 16 <<< 6 ||| (m + BitVec.ofNat 6 k).setWidth 16 =
      BitVec.ofNat 16 (p.toNat * 64 + (m.toNat + k) % 64) := by
  have hp : p.toNat < 256 := p.isLt
  have hk : (m.toNat + k) % 64 < 2 ^ 6 := Nat.mod_lt _ (by decide)
  have hplace : (m.toNat + k % 2 ^ 6) % 2 ^ 6 % 2 ^ 16 = (m.toNat + k) % 64 := by omega
  have hblock : (p.toNat % 2 ^ 16) <<< 6 % 2 ^ 16 = p.toNat <<< 6 := by
    simp only [Nat.shiftLeft_eq]
    omega
  have hsum : p.toNat <<< 6 ||| (m.toNat + k) % 64 = p.toNat * 64 + (m.toNat + k) % 64 := by
    rw [← Nat.shiftLeft_add_eq_or_of_lt hk, Nat.shiftLeft_eq]
  apply BitVec.eq_of_toNat_eq
  simp only [BitVec.toNat_or, BitVec.toNat_shiftLeft, BitVec.toNat_setWidth, BitVec.toNat_add, BitVec.toNat_ofNat,
    hplace, hblock, hsum]
  omega

theorem spriteWord_eq (s : State) (i : SpriteNo) :
    let pointer := s.phi1Read (s.screenAddr + BitVec.ofNat 16 (0x3F8 + i.val))
    let byte := fun k : Nat =>
      s.phi1Read (s.vbankPhi1 ||| BitVec.ofNat 16 (pointer.toNat * 64 + (s.sprites[i].memptr.toNat + k) % 64))
    s.spritePointerByte i = pointer ∧ s.spriteWord i = byte 0 ++ byte 1 ++ byte 2 := by
  have hpos : 0x3F8 + i.val < 2 ^ 10 := by omega
  have hpointer : s.spritePointerByte i = s.phi1Read (s.screenAddr + BitVec.ofNat 16 (0x3F8 + i.val)) := by
    rw [State.spritePointerByte, State.matrixByte, BitVec.setWidth_ofNat_of_le_of_lt (by decide) hpos]
  refine ⟨hpointer, ?_⟩
  simp only [State.spriteWord, State.spriteDataByte, spriteOffset_eq, hpointer]

theorem exec_eventFetchSprite (s : State) : exec .eventFetchSprite s = answer (fetchSprite s) := rfl

/-- Settles O27: the tuple's bytes by `nextTuple_afterTuple_sprites_getElem`, then the two ends of the list. -/
theorem fetchSpriteServesOneTuple : Obligations.FetchSpriteServesOneTuple := by
  refine ⟨fun s tup htup => ?_, fun s hend => ?_⟩
  case refine_2 =>
    rw [exec_eventFetchSprite, fetchSprite_of_none (List.getElem?_eq_none hend)]
    rfl
  case refine_1 =>
    have hfetch := fetchSprite_of_some htup
    refine ⟨nextTuple (s.afterTuple tup), ?_, fun hidx => ?_, ?_, fun i h0 h1 h2 => ?_, fun i h => ?_, fun n hn => ?_,
      fun hnone => ?_⟩
    · rw [exec_eventFetchSprite, hfetch]; rfl
    · rw [exec_eventFetchAlarm, fetchAlarm_of_fetchSprite hidx, hfetch]; rfl
    · rw [nextTuple_sprites]; exact nextTuple_frame
    · obtain ⟨hpointer, hword⟩ := spriteWord_eq s i
      rw [nextTuple_afterTuple_sprites_getElem, if_pos ⟨h0, h1, h2⟩, hpointer, hword]
      simp only [fetchAfterDraw_iff]
    · exact (nextTuple_afterTuple_sprites_getElem tup i).trans (if_neg h)
    · rw [nextTuple_of_some (s := s.afterTuple tup) hn]
      exact ⟨rfl, rfl⟩
    · rw [nextTuple_of_none (s := s.afterTuple tup) hnone]
      exact ⟨rfl, rfl⟩

end Sys2Proof.Machine

/-! PROOFS. The fetch index (43_fetch.md R184, R185): every operation keeps it in its list, and so none whose operands
are in range ends in an AssertFail (60_exceptions.md R275). -/

namespace Sys2Proof.Machine

/-! The fetch index after a fetch alarm. -/

section
variable {s t : State}

/-- A next tuple is armed only where the list has one. -/
theorem nextTuple_fetchIndexOk (s : State) : FetchIndexOk (nextTuple s) := by
  cases hnext : (s.cfg.fetchList s.spriteFetchMsk)[s.spriteFetchIdx + 1]? with
  | none =>
    rw [nextTuple_of_none hnext]
    exact fun hidx => nomatch hidx
  | some n =>
    rw [nextTuple_of_some hnext]
    exact fun _ => (List.getElem?_eq_some_iff.1 hnext).1

theorem fetchSprite_fetchIndexOk (h : fetchSprite s = .ok t) : FetchIndexOk t := by
  cases htuple : (s.cfg.fetchList s.spriteFetchMsk)[s.spriteFetchIdx]? with
  | none => rw [fetchSprite_of_none htuple] at h; cases h
  | some tuple =>
    rw [fetchSprite_of_some htuple] at h
    cases h
    exact nextTuple_fetchIndexOk _

/-- The check arms the first tuple of a list that is not empty. -/
theorem fetchAlarmCheck_fetchIndexOk (s : State) : FetchIndexOk (fetchAlarmCheck s) := by
  by_cases hmask : (checkSpriteDma s).newSpriteDmaMask = 0#8
  case pos =>
    rw [fetchAlarmCheck_of_noSprite hmask]
    exact fun hidx => nomatch hidx
  case neg =>
    obtain ⟨tuple, rest, hlist, hcheck⟩ := fetchAlarmCheck_of_sprite hmask
    rw [hcheck]
    intro _
    show 0 < (s.cfg.fetchList (checkSpriteDma s).newSpriteDmaMask).length
    rw [hlist]
    exact Nat.succ_pos _

theorem fetchAlarm_fetchIndexOk (h : fetchAlarm s = .ok t) : FetchIndexOk t := by
  cases hidx : s.fetchIdx with
  | fetchMatrix =>
    rw [fetchAlarm, hidx] at h
    obtain ⟨s1, -, rfl⟩ := map_eq_ok.1 h
    exact fun hsprite => nomatch hsprite
  | checkSpriteDma =>
    rw [fetchAlarm_of_checkSpriteDma hidx] at h
    cases h
    exact fetchAlarmCheck_fetchIndexOk s
  | fetchSprite =>
    rw [fetchAlarm_of_fetchSprite hidx] at h
    exact fetchSprite_fetchIndexOk h

theorem drawAlarm_fetchIndexOk (h : FetchIndexOk s) : FetchIndexOk (drawAlarm s) := by
  rw [drawAlarm_eq_withDrawn]
  exact h

theorem rasterIrqAlarm_fetchIndexOk (h : FetchIndexOk s) : FetchIndexOk (rasterIrqAlarm s) := by
  rw [rasterIrqAlarm]
  split <;> exact h

/-! Operations that answer. -/

theorem badlineAtFetch_ok (c : Clock) (s : State) : ∃ t, badlineAtFetch c s = .ok t := by
  cases hbad : badLineCondition s.cfg.toConfig (s.reg 0x11) (s.rasterY c.toNat) with
  | false => exact ⟨_, badlineAtFetch_of_good hbad⟩
  | true => exact ⟨_, badlineAtFetch_of_bad hbad⟩

theorem fetchSprite_ok (h : s.spriteFetchIdx < (s.cfg.fetchList s.spriteFetchMsk).length) :
    ∃ t, fetchSprite s = .ok t :=
  ⟨_, fetchSprite_of_some (List.getElem?_eq_getElem h)⟩

/-- With the fetch index in its list no fetch alarm stops. -/
theorem fetchAlarm_ok (h : FetchIndexOk s) : ∃ t, fetchAlarm s = .ok t := by
  cases hidx : s.fetchIdx with
  | fetchMatrix =>
    obtain ⟨t, ht⟩ := badlineAtFetch_ok s.fetchClk s
    rw [fetchAlarm, hidx]
    exact ⟨_, by rw [fetchAlarmMatrix, ht]; rfl⟩
  | checkSpriteDma => exact ⟨_, fetchAlarm_of_checkSpriteDma hidx⟩
  | fetchSprite =>
    rw [fetchAlarm_of_fetchSprite hidx]
    exact fetchSprite_ok (h hidx)

/-- The only fault of the flush is then its own bound (log 5). -/
theorem flushLoop_fault {n wc : Nat} {e : Fault} (hs : FetchIndexOk s) (h : flushLoop n wc s = .error e) :
    e = .clockOverrun := by
  induction n generalizing s with
  | zero => cases h; rfl
  | succ n ih =>
    rw [flushLoop_succ] at h
    split at h
    case isTrue =>
      obtain ⟨t, ht⟩ := fetchAlarm_ok hs
      rw [ht] at h
      exact ih (fetchAlarm_fetchIndexOk ht) h
    case isFalse =>
      split at h
      case isTrue => exact ih (drawAlarm_fetchIndexOk hs) h
      case isFalse => cases h

theorem advanceLoop_fault {n : Nat} {e : Fault} (hs : FetchIndexOk s) (h : advanceLoop n s = .error e) :
    e = .clockOverrun := by
  induction n generalizing s with
  | zero => cases h; rfl
  | succ n ih =>
    rw [advanceLoop_succ] at h
    simp only at h
    split at h
    case isTrue => cases h
    case isFalse =>
      split at h
      case isTrue =>
        obtain ⟨t, ht⟩ := fetchAlarm_ok hs
        rw [ht] at h
        exact ih (fetchAlarm_fetchIndexOk ht) h
      case isFalse =>
        split at h
        case isTrue => exact ih (drawAlarm_fetchIndexOk hs) h
        case isFalse => exact ih (rasterIrqAlarm_fetchIndexOk hs) h

end

theorem fetchMatrix_of_inRange {offset count : Int} (s : State)
    (h : 0 ≤ offset ∧ 0 ≤ count ∧ offset + count ≤ (textCols : Int)) :
    fetchMatrix offset count s = .ok (fetchColumns offset.toNat count.toNat s) :=
  if_pos h

theorem clockOverflow_of_notBelow {sub : Clock} {s : State} (h : s.overflowBelowZero sub = false) :
    ∃ t, clockOverflow sub s = .ok t := by
  rw [clockOverflow, h]
  exact ⟨_, rfl⟩

/-- The effect of a WRITE never stops. -/
theorem WriteEffect.ok {wc : BitVec 2} {v : Byte} {effect : State → Except Fault State} (h : WriteEffect wc v effect)
    (s : State) : ∃ t, effect s = .ok t := by
  cases h with
  | cr1 =>
    obtain ⟨t, ht, -⟩ := writeCr1_result v s
    exact ⟨t, ht⟩
  | store | ignored | colour | raster | cr2 | yxpand | vmcsb | vicirq | irqmask => exact ⟨_, rfl⟩

/-! No AssertFail. -/

/-- The answer is not an AssertFail. -/
def NoAssertFail (o : Host.Outcome State Fault Refusal) : Prop := ∀ r, o ≠ .fault (.assertFail r)

theorem noAssertFail_of_ok {x : Except Fault State} (h : ∃ t, x = .ok t) : NoAssertFail (answer x) := by
  obtain ⟨t, rfl⟩ := h
  exact fun _ h => nomatch h

section
variable {x : Except Fault State} (hx : ∀ e, x = .error e → e = .clockOverrun)
include hx

theorem noAssertFail_of_overrun : NoAssertFail (answer x) := by
  cases x with
  | error e => rw [hx e rfl]; exact fun _ h => nomatch h
  | ok t => exact noAssertFail_of_ok ⟨t, rfl⟩

theorem noAssertFail_map (f : State → State) : NoAssertFail (answer (x.map f)) := by
  cases x with
  | error e => rw [hx e rfl]; exact fun _ h => nomatch h
  | ok t => exact noAssertFail_of_ok ⟨f t, rfl⟩

theorem noAssertFail_bind {f : State → Except Fault State} (hf : ∀ t, x = .ok t → ∃ u, f t = .ok u) :
    NoAssertFail (answer (x.bind f)) := by
  cases x with
  | error e => rw [hx e rfl]; exact fun _ h => nomatch h
  | ok t => exact noAssertFail_of_ok (hf t rfl)

end

/-- Settles O59: the service loops can only overrun, and every other part answers for operands in range. -/
theorem noAssertFailWithinRange : Obligations.NoAssertFailWithinRange := by
  intro i s r hidx hrange
  obtain ⟨hmatrix, hsprite, hoverflow⟩ := hrange
  have hflush : ∀ wc e, flush wc s = .error e → e = .clockOverrun := fun _ _ => flushLoop_fault hidx
  have hadvance : ∀ e, advance s = .error e → e = .clockOverrun := fun _ => advanceLoop_fault hidx
  suffices h : NoAssertFail (exec i s) from h r
  cases operationShape i with
  | read hexec =>
    rw [hexec]
    exact noAssertFail_map (hflush 0) _
  | peek hexec =>
    rw [hexec]
    exact noAssertFail_of_ok ⟨_, rfl⟩
  | write hexec heffect =>
    rw [hexec]
    exact noAssertFail_bind (hflush _) fun t _ => heffect.ok t
  | eventAdvance => exact noAssertFail_of_overrun hadvance
  | eventHandlePendingAlarms => exact noAssertFail_of_overrun (hflush _)
  | eventFetchAlarm => exact noAssertFail_of_ok (fetchAlarm_ok hidx)
  | eventClockOverflow => exact noAssertFail_bind (hflush 0) fun t ht => clockOverflow_of_notBelow (hoverflow rfl t ht)
  | eventBadlineEval =>
    obtain ⟨t, ht, -⟩ := badlineEval_ok s.operands.oldCr s.operands.newCr s.operands.line s.operands.cycle s
    exact noAssertFail_of_ok ⟨t, ht⟩
  | eventFetchMatrix => exact noAssertFail_of_ok ⟨_, fetchMatrix_of_inRange s (hmatrix rfl)⟩
  | eventFetchSprite => exact noAssertFail_of_ok (fetchSprite_ok (hsprite rfl))
  | eventSnapshotWrite => exact noAssertFail_map hadvance _
  | eventSetVbank =>
    show NoAssertFail (execEventSetVbank s)
    rw [execEventSetVbank]
    split
    · exact noAssertFail_bind (hflush 0) fun t _ => ⟨_, rfl⟩
    · exact fun _ h => nomatch h
  | eventSetRamBase | eventLightpenTrigger | eventVideoRamStore =>
    exact noAssertFail_bind (hflush 0) fun t _ => ⟨_, rfl⟩
  | eventDrawAlarm | eventRasterIrqAlarm | eventCheckSpriteDma | eventDrawLine | eventReset | eventSnapshotLoad =>
    exact noAssertFail_of_ok ⟨_, rfl⟩

end Sys2Proof.Machine

/-! PROOFS. SNAPSHOT_LOAD (45_snapshot.md R246 to R251): when a load is accepted, and the state it then gives as one
update of the state. -/

namespace Sys2Proof.Machine

/-! When a load is accepted. -/

section
variable {s : State} {v : Version} {b : List Byte}

theorem ite_some_eq_none_iff {p : Prop} [Decidable p] {m : LogMessage} {x : Option LogMessage} :
    (if p then some m else x) = none ↔ ¬p ∧ x = none := by
  split_ifs with h <;> simp [h]

theorem ite_none_some_iff {p : Prop} [Decidable p] {m : LogMessage} : (if p then none else some m) = none ↔ p := by
  split_ifs with h <;> simp [h]

/-- A load is accepted where none of the checks fails (60_exceptions.md R271). -/
theorem loadProblem_eq_none_iff : s.loadProblem v b = none ↔
    v.newerThan s.cfg.snapshotVersion = false ∧ b.length = 1223 ∧
      ((byteAt b 1116).toNat = s.cycleNow ∧ (word16At b 1117).toNat = s.lineNow) ∧ byteAt b 1222 ≤ 2#8 ∧
      s.bodyInRange b = true := by
  have hlength : bodyLength = 1223 := rfl
  simp only [State.loadProblem, ite_some_eq_none_iff, ite_none_some_iff, hlength, Bool.not_eq_true, not_or, not_not,
    BitVec.not_lt]

theorem bodyInRange_iff : s.bodyInRange b = true ↔
    (∀ k ∈ flagOffsets, byteAt b k ≤ 1#8) ∧
      (∀ i < 8, byteAt b (1194 + 3 * i) ≤ 63#8 ∧ byteAt b (1195 + 3 * i) ≤ 63#8) ∧
      word16At b 1188 ≤ 1023#16 ∧ word16At b 1191 ≤ 1023#16 ∧ byteAt b 1190 ≤ 40#8 ∧
      bankWellFormed (word16At b 1186) = true ∧
      (byteAt b 1222 = 2#8 → (s.tupleIndexAt (byteAt b 1111) (s.clk + word32At b 1218)).isSome = true) := by
  have himp : ∀ p q : Bool, (!p || q) = true ↔ (p = true → q = true) := by decide
  simp only [State.bodyInRange, Bool.and_eq_true, List.all_eq_true, List.mem_range, decide_eq_true_eq, and_assoc,
    bne, himp, beq_iff_eq]

theorem snapshotLoad_of_accepted (h : s.loadProblem v b = none) :
    snapshotLoad v b s = recomputeDerived (storeBody b s) := by
  rw [snapshotLoad, h]

end

/-! What an accepted load gives. -/

theorem armRasterCompare_eq (s : State) : armRasterCompare s =
    let line := compareLine (s.reg 0x11) (s.reg 0x12)
    let start := later s.clkOrigin (line.toNat * s.cfg.cpl)
    { s with
      rasterIrqLine := line
      rasterIrqClk :=
        if s.cfg.screenHeight ≤ line.toNat then s.cfg.clockMax
        else if start ≤ s.clk then later start s.cfg.frame else start
      log := s.log ++ if s.cfg.screenHeight ≤ line.toNat then [.rasterCompareOutOfRange line] else [] } := by
  simp only [armRasterCompare]
  split
  · rfl
  · simp

theorem recomputeSpriteFetch_eq (s : State) : recomputeSpriteFetch s = { s with
    spriteFetchMsk := if s.fetchIdx = .fetchSprite then s.newSpriteDmaMask else 0
    spriteFetchBase := if s.fetchIdx = .fetchSprite then s.fetchBaseOf s.fetchClk else s.clkOrigin
    spriteFetchIdx :=
      if s.fetchIdx = .fetchSprite then (s.tupleIndexAt s.newSpriteDmaMask s.fetchClk).getD 0 else 0 } := by
  rw [recomputeSpriteFetch]
  split <;> rfl

/-- RECOMPUTE_DERIVED (45_snapshot.md R249, R250), each derived field from the fields of the body. -/
theorem recomputeDerived_eq (s : State) : recomputeDerived s =
    let line := s.rasterY ((s.clk.toNat : Int) - s.cfg.drawCycle)
    let rows := s.cfg.rows ((s.reg 0x11).getLsbD 3)
    { armRasterCompare s with
      currentLine := BitVec.ofNat 16 line
      drawClk := s.nextDrawClk
      videoMode := modeOfRegs (s.reg 0x11) (s.reg 0x16)
      borderTop := rows.1
      borderBottom := rows.2
      verticalBorder := if rows.1.toNat ≤ line ∧ line ≤ rows.2.toNat then s.blank else true
      changes := []
      lineStart := s.renderFromRegs
      backgroundColorSource := s.vbuf[39]
      ycounter := BitVec.ofNat 3 line - (s.reg 0x11).extractLsb' 0 3
      forceDisplayState := false
      lastRead := 0
      stolenCycles := 0
      cache := []
      irqLine := irqRequest s.irqStatus (s.reg 0x1A)
      spriteFetchMsk := if s.fetchIdx = .fetchSprite then s.newSpriteDmaMask else 0
      spriteFetchBase := if s.fetchIdx = .fetchSprite then s.fetchBaseOf s.fetchClk else s.clkOrigin
      spriteFetchIdx :=
        if s.fetchIdx = .fetchSprite then (s.tupleIndexAt s.newSpriteDmaMask s.fetchClk).getD 0 else 0 } := by
  rw [recomputeDerived, recomputeSpriteFetch_eq, armRasterCompare_eq]
  rfl

end Sys2Proof.Machine

/-! PROOFS. What the effects after the flush leave alone: the WRITEs together, and the operations of the host
(40_register_file.md R83 to R116, 70_reset_and_hazards.md R286, 41_scheduler.md R153, 20_memory.md R47 to R52). -/

namespace Sys2Proof.Machine

/-! The effect of a WRITE. -/

theorem updateRasterCompare_frame (s : State) : updateRasterCompare s = { s with
    rasterIrqLine := (updateRasterCompare s).rasterIrqLine, rasterIrqClk := (updateRasterCompare s).rasterIrqClk
    log := (updateRasterCompare s).log, irqStatus := (updateRasterCompare s).irqStatus
    irqLine := (updateRasterCompare s).irqLine } := by
  rw [updateRasterCompare, armRasterCompare_eq]
  split <;> rfl

/-- The state with what the effect of a WRITE may write taken from `t`. -/
def State.withWritten (s t : State) : State :=
  { s with
    regs := t.regs, rasterIrqLine := t.rasterIrqLine, rasterIrqClk := t.rasterIrqClk, log := t.log
    irqStatus := t.irqStatus, irqLine := t.irqLine, blank := t.blank, borderTop := t.borderTop
    borderBottom := t.borderBottom, videoMode := t.videoMode, changes := t.changes, sprites := t.sprites
    clk := t.clk, idleState := t.idleState, badLine := t.badLine, allowBadLines := t.allowBadLines
    forceDisplayState := t.forceDisplayState, ycounter := t.ycounter, memCounter := t.memCounter
    memCounterInc := t.memCounterInc, vbuf := t.vbuf, cbuf := t.cbuf
    backgroundColorSource := t.backgroundColorSource, stolenCycles := t.stolenCycles, draws := t.draws }

theorem withWritten_trans {s t u : State} (hst : t = s.withWritten t) (htu : u = t.withWritten u) :
    u = s.withWritten u := by
  rw [htu, hst]; rfl

theorem updateRasterCompare_eq_withWritten (s : State) :
    updateRasterCompare s = s.withWritten (updateRasterCompare s) := by
  have hframe := updateRasterCompare_frame s
  generalize updateRasterCompare s = t at hframe ⊢
  rw [hframe]; rfl

theorem storeCr1_eq_withWritten (v : Byte) (s : State) : storeCr1 v s = s.withWritten (storeCr1 v s) := by
  rw [storeCr1_eq]
  exact withWritten_trans (withWritten_trans rfl (updateRasterCompare_eq_withWritten _)) rfl

theorem badlineEval_eq_withWritten {old new : Byte} {y c : Nat} {s t : State} (h : badlineEval old new y c s = .ok t) :
    t = s.withWritten t := by
  rw [badlineEval_frame h]; rfl

theorem WriteEffect.eq_withWritten {wc : BitVec 2} {v : Byte} {effect : State → Except Fault State}
    (h : WriteEffect wc v effect) {s t : State} (ht : effect s = .ok t) : t = s.withWritten t := by
  cases h with
  | cr1 => exact withWritten_trans (storeCr1_eq_withWritten v s) (badlineEval_eq_withWritten ht)
  | raster =>
    cases ht
    exact withWritten_trans (t := s.setReg 0x12 v) rfl (updateRasterCompare_eq_withWritten _)
  | cr2 =>
    simp only [writeCr2, addChangeIf_bne] at ht
    cases ht; rfl
  | vmcsb =>
    rw [writeVmcsb, resolvePointers_eq] at ht
    cases ht; rfl
  | colour =>
    rw [writeColour, addChangeIf_bne] at ht
    cases ht; rfl
  | store | ignored | yxpand | vicirq | irqmask => cases ht; rfl

/-! The operations of the host. -/

theorem clockOverflow_ok {sub : Clock} {s t : State} (h : clockOverflow sub s = .ok t) :
    s.overflowBelowZero sub = false ∧ t = { s with
      clk := s.clk - sub
      clkOrigin := s.clkOrigin - sub
      fetchClk := moveBack s.cfg.clockMax sub s.fetchClk
      drawClk := moveBack s.cfg.clockMax sub s.drawClk
      rasterIrqClk := moveBack s.cfg.clockMax sub s.rasterIrqClk
      spriteFetchBase := s.spriteFetchBase - sub } := by
  rw [clockOverflow] at h
  split at h
  case isTrue => cases h
  case isFalse hbelow =>
    cases h
    exact ⟨by simpa using hbelow, rfl⟩

theorem videoRamStore_frame (space : StoreSpace) (a : Addr) (v : Byte) (s : State) : videoRamStore space a v s =
    { s with ram := (videoRamStore space a v s).ram, colorRam := (videoRamStore space a v s).colorRam } := by
  cases space <;> rfl

theorem lightpenTrigger_frame (s : State) : lightpenTrigger s =
    { s with
      lightPen := (lightpenTrigger s).lightPen, irqStatus := (lightpenTrigger s).irqStatus
      irqLine := (lightpenTrigger s).irqLine } := by
  rw [lightpenTrigger]
  split <;> rfl

theorem present_frame (f : WordFields) (s : State) :
    s.present f = { s with readData := (s.present f).readData, lastRead := (s.present f).lastRead } := by
  rw [State.present]
  split
  · rfl
  · split <;> rfl

theorem rasterIrqAlarm_frame (s : State) : rasterIrqAlarm s =
    { s with
      rasterIrqClk := (rasterIrqAlarm s).rasterIrqClk, irqStatus := (rasterIrqAlarm s).irqStatus
      irqLine := (rasterIrqAlarm s).irqLine } := by
  rw [rasterIrqAlarm]
  split <;> rfl

theorem renderFromRegs_of_reg_zero {s : State} (h : ∀ a, s.reg a = 0) : s.renderFromRegs =
    { RenderRegs.reset with
      screenBase := s.vbankPhi1, charBase := s.vbankPhi1, bitmapBase := s.vbankPhi1 } := by
  simp [State.renderFromRegs, State.colour, State.screenAddr, State.charAddr, State.bitmapAddr, h]
  decide

theorem updateIrqLine_of_status_zero {s : State} (h : s.irqStatus = 0#8) :
    updateIrqLine s = { s with irqLine := false } := by
  rw [updateIrqLine, h]
  simp [irqRequest]

/-- RESET in full (70_reset_and_hazards.md R286, 10_state.md R36). -/
theorem resetBlock_eq (s : State) : resetBlock s = { State.reset with
    cfg := s.cfg
    clk := s.clk
    clkOrigin := s.clk
    fetchClk := s.clk + BitVec.ofNat 32 s.cfg.fetchCycle
    drawClk := s.clk + BitVec.ofNat 32 (if 0 < s.cfg.drawCycle then s.cfg.drawCycle else s.cfg.cpl)
    rasterIrqClk := s.clk + BitVec.ofNat 32 s.cfg.frame
    spriteFetchBase := s.clk
    colorRam := s.colorRam
    vbankPhi1 := s.vbankPhi1
    vbankPhi2 := s.vbankPhi2
    ramBaseOffset := s.ramBaseOffset
    lineStart := { RenderRegs.reset with
      screenBase := s.vbankPhi1, charBase := s.vbankPhi1, bitmapBase := s.vbankPhi1 }
    borderTop := s.cfg.top24
    borderBottom := s.cfg.bottom24
    ram := s.ram
    chargen := s.chargen
    romh := s.romh
    memoryTime := s.memoryTime
    ultimax := s.ultimax
    readData := s.readData
    lines := s.lines
    log := s.log
    snapshotOut := s.snapshotOut
    lineCollisions := s.lineCollisions
    dirtyRange := s.dirtyRange
    inbox := s.inbox
    operands := s.operands
    draws := s.draws } := by
  have hzero : ∀ a, (resetClocks (resetFields s)).reg a = 0 := fun a => by
    simp [State.reg, resetClocks, resetFields]
  rw [resetBlock, resetDerived, renderFromRegs_of_reg_zero hzero, updateIrqLine_of_status_zero rfl]
  rfl

/-- Settles O45: a RESET is total, and `resetBlock_eq` is its result. -/
theorem resetGivesTheResetValues : Obligations.ResetGivesTheResetValues :=
  fun s => ⟨resetBlock s, rfl, resetBlock_eq s⟩

end Sys2Proof.Machine

/-! PROOFS. The ranges of the state (10_state.md R13, R19, R22; 43_fetch.md R184, R185; 60_exceptions.md R256) and the
lines delivered (44_renderer.md R230): each part of an operation keeps them. -/

namespace Sys2Proof.Machine

/-! The fetch index. -/

/-- The fields that the condition on the fetch index reads. -/
theorem fetchIndexOk_congr {s t : State} (h : FetchIndexOk s) (hcfg : t.cfg = s.cfg) (hidx : t.fetchIdx = s.fetchIdx)
    (hmsk : t.spriteFetchMsk = s.spriteFetchMsk) (hpos : t.spriteFetchIdx = s.spriteFetchIdx) : FetchIndexOk t := by
  rw [FetchIndexOk, hcfg, hidx, hmsk, hpos]
  exact h

theorem fetchStateOf_eq_fetchSprite_iff {code : Byte} (h : code ≤ 2#8) :
    fetchStateOf code = .fetchSprite ↔ code = 2#8 := by
  revert code
  decide

theorem tupleIndexAt_lt {s : State} {m : Byte} {f : Clock} {k : Nat} (h : s.tupleIndexAt m f = some k) :
    k < (s.cfg.fetchList m).length := by
  obtain ⟨hk, -⟩ := List.findIdx?_eq_some_iff_getElem.1 h
  exact hk

/-- A load that is accepted in the middle of a sprite list has found the tuple in progress in the list
(45_snapshot.md R248, R249). -/
theorem snapshotLoad_fetchIndexOk {v : Version} {b : List Byte} {s : State} (h : FetchIndexOk s) :
    FetchIndexOk (snapshotLoad v b s) := by
  cases hproblem : s.loadProblem v b with
  | some m =>
    rw [snapshotLoad_of_problem hproblem]
    exact h
  | none =>
    obtain ⟨-, -, -, htype, hrange⟩ := loadProblem_eq_none_iff.1 hproblem
    obtain ⟨-, -, -, -, -, -, htuple⟩ := bodyInRange_iff.1 hrange
    rw [snapshotLoad_of_accepted hproblem, recomputeDerived_eq, armRasterCompare_eq]
    intro hsprite
    replace hsprite : (storeBody b s).fetchIdx = .fetchSprite := hsprite
    obtain ⟨k, hk⟩ := Option.isSome_iff_exists.1 (htuple ((fetchStateOf_eq_fetchSprite_iff htype).1 hsprite))
    replace hk : (storeBody b s).tupleIndexAt (storeBody b s).newSpriteDmaMask (storeBody b s).fetchClk = some k := hk
    simp only [hsprite, if_true, hk, Option.getD_some]
    exact tupleIndexAt_lt hk

theorem keptByParts_fetchIndexOk : KeptByParts FetchIndexOk where
  fetchAlarm _ h := fetchAlarm_fetchIndexOk h
  drawAlarm := drawAlarm_fetchIndexOk
  rasterIrqAlarm := rasterIrqAlarm_fetchIndexOk
  read hafter hs := by cases hafter <;> exact fetchIndexOk_congr hs rfl rfl rfl rfl
  peek hs := fetchIndexOk_congr hs rfl rfl rfl rfl
  write heffect hs h := by rw [heffect.eq_withWritten h]; exact fetchIndexOk_congr hs rfl rfl rfl rfl
  clockOverflow hs h := by obtain ⟨-, rfl⟩ := clockOverflow_ok h; exact fetchIndexOk_congr hs rfl rfl rfl rfl
  badlineEval hs h := by rw [badlineEval_frame h]; exact fetchIndexOk_congr hs rfl rfl rfl rfl
  fetchMatrix hs h := by
    obtain ⟨-, -, -, rfl⟩ := fetchMatrix_ok h
    rw [fetchColumns]
    exact fetchIndexOk_congr hs rfl rfl rfl rfl
  checkSpriteDma hs := by rw [checkSpriteDma]; exact fetchIndexOk_congr hs rfl rfl rfl rfl
  fetchSprite _ h := fetchSprite_fetchIndexOk h
  drawLine hs := by rw [drawLine_frame]; exact fetchIndexOk_congr hs rfl rfl rfl rfl
  resetBlock _ := by rw [resetBlock_eq]; exact fun h => nomatch h
  snapshotOut hs := fetchIndexOk_congr hs rfl rfl rfl rfl
  snapshotLoad := snapshotLoad_fetchIndexOk
  setVbank _ _ hs := by rw [setVbank, resolvePointers_eq]; exact fetchIndexOk_congr hs rfl rfl rfl rfl
  setRamBase hs := by rw [setRamBase, resolvePointers_eq]; exact fetchIndexOk_congr hs rfl rfl rfl rfl
  lightpenTrigger hs := by rw [lightpenTrigger_frame]; exact fetchIndexOk_congr hs rfl rfl rfl rfl
  videoRamStore hs := by rw [videoRamStore_frame]; exact fetchIndexOk_congr hs rfl rfl rfl rfl
  accept hs := fetchIndexOk_congr hs rfl rfl rfl rfl
  present hs := by rw [present_frame]; exact fetchIndexOk_congr hs rfl rfl rfl rfl

/-! The ranges. -/

/-- The fields that the ranges read. -/
theorem rangesOk_congr {s t : State} (h : RangesOk s) (hcfg : t.cfg = s.cfg) (hstatus : t.irqStatus = s.irqStatus)
    (hline : t.currentLine = s.currentLine) (hinc : t.memCounterInc = s.memCounterInc)
    (hbank1 : t.vbankPhi1 = s.vbankPhi1) (hbank2 : t.vbankPhi2 = s.vbankPhi2) : RangesOk t := by
  rw [RangesOk, hcfg, hstatus, hline, hinc, hbank1, hbank2]
  exact h

/-- The raise of a source keeps bits 7:4 of `irq_status` (60_exceptions.md R256, R258). -/
theorem status_or_mask_high (src : IrqSource) (status : Byte) :
    (status ||| src.mask) &&& 0xF0#8 = status &&& 0xF0#8 := by
  revert status
  cases src <;> decide

theorem rangesOk_raiseIrq {s : State} (h : RangesOk s) (src : IrqSource) : RangesOk (raiseIrq src s) := by
  obtain ⟨hstatus, hrest⟩ := h
  exact ⟨(status_or_mask_high src s.irqStatus).trans hstatus, hrest⟩

theorem rangesOk_rasterIrqAlarm {s : State} (h : RangesOk s) : RangesOk (rasterIrqAlarm s) := by
  rw [rasterIrqAlarm]
  split
  · exact h
  · exact rangesOk_congr (rangesOk_raiseIrq h .irst) rfl rfl rfl rfl rfl rfl

theorem rangesOk_updateRasterCompare {s : State} (h : RangesOk s) : RangesOk (updateRasterCompare s) := by
  have harm : RangesOk (armRasterCompare s) := by
    rw [armRasterCompare_eq]
    exact rangesOk_congr h rfl rfl rfl rfl rfl rfl
  rw [updateRasterCompare]
  split
  · exact rangesOk_raiseIrq harm .irst
  · exact harm

theorem rangesOk_collisionIrqs {s : State} (h : RangesOk s) : RangesOk (collisionIrqs s) := by
  have hsprite : ∀ (m : Byte) {u : State}, RangesOk u → RangesOk (spriteSpriteIrq m u) := by
    intro m u hu
    rw [spriteSpriteIrq]
    split_ifs
    · exact hu
    · exact rangesOk_congr (rangesOk_raiseIrq hu .immc) rfl rfl rfl rfl rfl rfl
    · exact rangesOk_congr hu rfl rfl rfl rfl rfl rfl
  have hbackground : ∀ (m : Byte) {u : State}, RangesOk u → RangesOk (spriteBackgroundIrq m u) := by
    intro m u hu
    rw [spriteBackgroundIrq]
    split_ifs
    · exact hu
    · exact rangesOk_congr (rangesOk_raiseIrq hu .imbc) rfl rfl rfl rfl rfl rfl
    · exact rangesOk_congr hu rfl rfl rfl rfl rfl rfl
  exact hbackground _ (hsprite _ h)

theorem rangesOk_drawLine {s : State} (h : RangesOk s) : RangesOk (drawLine s) := by
  rw [drawLine_frame]
  exact rangesOk_congr h rfl rfl rfl rfl rfl rfl

theorem nextLine_lt (s : State) : s.nextLine.toNat < s.cfg.screenHeight := by
  rw [nextLine_toNat]
  exact Nat.mod_lt _ (screenHeight_pos _)

theorem beginNextLine_currentLine (s : State) : (beginNextLine s).currentLine = s.nextLine := by
  rw [beginNextLine_eq]

theorem beginNextLine_memCounterInc (s : State) : (beginNextLine s).memCounterInc = 40#8 := by
  simp only [beginNextLine_eq, lineCounters_eq]

theorem rangesOk_beginNextLine {s : State} (h : RangesOk s) : RangesOk (beginNextLine s) := by
  rw [RangesOk, beginNextLine_irqStatus, beginNextLine_currentLine, beginNextLine_memCounterInc, beginNextLine_cfg,
    beginNextLine_vbankPhi1, beginNextLine_vbankPhi2]
  obtain ⟨hstatus, -, -, hbanks⟩ := h
  exact ⟨hstatus, nextLine_lt s, by decide, hbanks⟩

theorem rangesOk_drawAlarm {s : State} (h : RangesOk s) : RangesOk (drawAlarm s) :=
  rangesOk_beginNextLine (rangesOk_collisionIrqs (rangesOk_drawLine h))

/-- A fetch alarm leaves the increment or makes it a whole row (42_badline.md R169). -/
theorem fetchAlarm_memCounterInc {s t : State} (h : fetchAlarm s = .ok t) :
    t.memCounterInc = 40#8 ∨ t.memCounterInc = s.memCounterInc := by
  cases hidx : s.fetchIdx with
  | fetchMatrix =>
    rw [fetchAlarm, hidx] at h
    obtain ⟨s1, hbad, rfl⟩ := map_eq_ok.1 h
    cases hcond : badLineCondition s.cfg.toConfig (s.reg 0x11) (s.rasterY s.fetchClk.toNat) with
    | false => rw [badlineAtFetch_of_good hcond] at hbad; cases hbad; exact .inr rfl
    | true => rw [badlineAtFetch_of_bad hcond] at hbad; cases hbad; exact .inl rfl
  | checkSpriteDma =>
    rw [fetchAlarm_of_checkSpriteDma hidx] at h
    cases h
    rw [fetchAlarmCheck]
    split <;> exact .inr rfl
  | fetchSprite =>
    rw [fetchAlarm_of_fetchSprite hidx] at h
    rw [fetchSprite_frame h]
    exact .inr rfl

theorem rangesOk_fetchAlarm {s t : State} (h : RangesOk s) (ht : fetchAlarm s = .ok t) : RangesOk t := by
  obtain ⟨hstatus, hline, hinc, hbanks⟩ := h
  have hinc' : t.memCounterInc.toNat ≤ textCols := by
    obtain heq | heq := fetchAlarm_memCounterInc ht
    · rw [heq]; decide
    · rwa [heq]
  rw [fetchAlarm_frame ht]
  exact ⟨hstatus, hline, hinc', hbanks⟩

theorem rangesOk_badlineEval {old new : Byte} {y c : Nat} {s t : State} (h : RangesOk s)
    (ht : badlineEval old new y c s = .ok t) : RangesOk t := by
  obtain ⟨hstatus, hline, hinc, hbanks⟩ := h
  obtain ⟨u, hu, hcount⟩ := badlineEval_ok old new y c s
  obtain rfl : u = t := by rw [ht] at hu; exact (Except.ok.inj hu).symm
  have hcount' : u.memCounterInc.toNat ≤ textCols := by
    obtain hle | heq := hcount
    · exact hle
    · rwa [heq]
  rw [badlineEval_frame ht]
  exact ⟨hstatus, hline, hcount', hbanks⟩

theorem rasterY_lt (s : State) (t : Int) : s.rasterY t < s.cfg.screenHeight := by
  have hpos : (0 : Int) < s.cfg.screenHeight := by exact_mod_cast screenHeight_pos s.cfg.toConfig
  have hlt := Int.emod_lt_of_pos ((t - s.clkOrigin.toNat) / s.cfg.cpl) hpos
  have hnonneg := Int.emod_nonneg ((t - s.clkOrigin.toNat) / s.cfg.cpl) hpos.ne'
  rw [State.rasterY]
  omega

/-- A line of the standard fits the 16 bits of `current_line` (10_state.md R13). -/
theorem ofNat_rasterY_lt (s : State) (t : Int) : (BitVec.ofNat 16 (s.rasterY t)).toNat < s.cfg.screenHeight :=
  (Nat.mod_le _ _).trans_lt (rasterY_lt s t)

theorem rangesOk_snapshotLoad {v : Version} {b : List Byte} {s : State} (h : RangesOk s) :
    RangesOk (snapshotLoad v b s) := by
  cases hproblem : s.loadProblem v b with
  | some m =>
    rw [snapshotLoad_of_problem hproblem]
    exact rangesOk_congr h rfl rfl rfl rfl rfl rfl
  | none =>
    obtain ⟨-, -, -, -, hrange⟩ := loadProblem_eq_none_iff.1 hproblem
    obtain ⟨-, -, -, -, hinc, hbank, -⟩ := bodyInRange_iff.1 hrange
    rw [snapshotLoad_of_accepted hproblem, recomputeDerived_eq, armRasterCompare_eq]
    refine ⟨?_, ?_, hinc, hbank, hbank⟩
    · show byteAt b 1193 &&& 0x0F#8 &&& 0xF0#8 = 0#8
      rw [BitVec.and_assoc]
      exact BitVec.and_zero
    · exact ofNat_rasterY_lt (storeBody b s) _

theorem rangesOk_write {wc : BitVec 2} {v : Byte} {effect : State → Except Fault State} {s t : State}
    (heffect : WriteEffect wc v effect) (h : RangesOk s) (ht : effect s = .ok t) : RangesOk t := by
  have hset : ∀ a, RangesOk (s.setReg a v) := fun a => rangesOk_congr h rfl rfl rfl rfl rfl rfl
  cases heffect with
  | cr1 =>
    refine rangesOk_badlineEval ?_ ht
    rw [storeCr1_eq]
    exact rangesOk_congr (rangesOk_updateRasterCompare (hset 0x11)) rfl rfl rfl rfl rfl rfl
  | raster =>
    cases ht
    exact rangesOk_updateRasterCompare (hset 0x12)
  | vicirq =>
    cases ht
    obtain ⟨hstatus, hrest⟩ := h
    refine ⟨?_, hrest⟩
    show s.irqStatus &&& ~~~(s.lastRead &&& 0x0F#8) &&& 0xF0#8 = 0#8
    rw [BitVec.and_assoc, BitVec.and_comm (~~~_), ← BitVec.and_assoc, hstatus, BitVec.zero_and]
  | vmcsb =>
    rw [writeVmcsb, resolvePointers_eq] at ht
    cases ht
    exact rangesOk_congr h rfl rfl rfl rfl rfl rfl
  | cr2 =>
    simp only [writeCr2, addChangeIf_bne] at ht
    cases ht
    exact rangesOk_congr h rfl rfl rfl rfl rfl rfl
  | colour =>
    rw [writeColour, addChangeIf_bne] at ht
    cases ht
    exact rangesOk_congr h rfl rfl rfl rfl rfl rfl
  | store | ignored | yxpand | irqmask =>
    cases ht
    exact rangesOk_congr h rfl rfl rfl rfl rfl rfl

theorem keptByParts_rangesOk : KeptByParts RangesOk where
  fetchAlarm := rangesOk_fetchAlarm
  drawAlarm := rangesOk_drawAlarm
  rasterIrqAlarm := rangesOk_rasterIrqAlarm
  read hafter hs := by cases hafter <;> exact rangesOk_congr hs rfl rfl rfl rfl rfl rfl
  peek hs := rangesOk_congr hs rfl rfl rfl rfl rfl rfl
  write := rangesOk_write
  clockOverflow hs h := by obtain ⟨-, rfl⟩ := clockOverflow_ok h; exact rangesOk_congr hs rfl rfl rfl rfl rfl rfl
  badlineEval := rangesOk_badlineEval
  fetchMatrix hs h := by
    obtain ⟨-, -, -, rfl⟩ := fetchMatrix_ok h
    rw [fetchColumns]
    exact rangesOk_congr hs rfl rfl rfl rfl rfl rfl
  checkSpriteDma hs := by rw [checkSpriteDma]; exact rangesOk_congr hs rfl rfl rfl rfl rfl rfl
  fetchSprite hs h := by rw [fetchSprite_frame h]; exact rangesOk_congr hs rfl rfl rfl rfl rfl rfl
  drawLine := rangesOk_drawLine
  resetBlock hs := by
    obtain ⟨-, -, -, hbanks⟩ := hs
    rw [resetBlock_eq]
    exact ⟨BitVec.zero_and, screenHeight_pos _, Nat.zero_le _, hbanks⟩
  snapshotOut hs := rangesOk_congr hs rfl rfl rfl rfl rfl rfl
  snapshotLoad := rangesOk_snapshotLoad
  setVbank h1 h2 hs := by
    obtain ⟨hstatus, hline, hinc, -⟩ := hs
    rw [setVbank, resolvePointers_eq]
    exact ⟨hstatus, hline, hinc, h1, h2⟩
  setRamBase hs := by rw [setRamBase, resolvePointers_eq]; exact rangesOk_congr hs rfl rfl rfl rfl rfl rfl
  lightpenTrigger hs := by
    rw [lightpenTrigger]
    split
    · exact hs
    · exact rangesOk_raiseIrq (rangesOk_congr hs rfl rfl rfl rfl rfl rfl) .ilp
  videoRamStore hs := by rw [videoRamStore_frame]; exact rangesOk_congr hs rfl rfl rfl rfl rfl rfl
  accept hs := rangesOk_congr hs rfl rfl rfl rfl rfl rfl
  present hs := by rw [present_frame]; exact rangesOk_congr hs rfl rfl rfl rfl rfl rfl

/-- Settles O54: each of the two conditions is kept by the parts, on its own. -/
theorem stepKeepsRanges : Obligations.StepKeepsRanges :=
  fun _ _ hranges hindex h => ⟨keptByParts_rangesOk.step hranges h, keptByParts_fetchIndexOk.step hindex h⟩

/-! The lines delivered. -/

/-- The fields that the condition on the lines reads. -/
theorem deliveriesOk_congr {s t : State} (h : DeliveriesOk s) (hcfg : t.cfg = s.cfg) (hlines : t.lines = s.lines) :
    DeliveriesOk t := by
  rw [DeliveriesOk, hcfg, hlines]
  exact h

/-- DRAW_LINE delivers a line of the standard, complete (44_renderer.md R230). -/
theorem deliveriesOk_drawLine {s : State} (hranges : RangesOk s) (h : DeliveriesOk s) : DeliveriesOk (drawLine s) := by
  obtain ⟨-, hline, -⟩ := hranges
  rw [DeliveriesOk, drawLine_lines, drawLine_cfg]
  intro d hd
  obtain hold | hnew := List.mem_append.1 hd
  · exact h d hold
  · obtain rfl := List.mem_singleton.1 hnew
    exact ⟨hline, length_drawLine_pixels s⟩

theorem deliveriesOk_drawAlarm {s : State} (hranges : RangesOk s) (h : DeliveriesOk s) :
    DeliveriesOk (drawAlarm s) := by
  refine deliveriesOk_congr (deliveriesOk_drawLine hranges h) ?_ ?_ <;> simp [drawAlarm]

theorem deliveriesOk_snapshotLoad {v : Version} {b : List Byte} {s : State} (h : DeliveriesOk s) :
    DeliveriesOk (snapshotLoad v b s) := by
  cases hproblem : s.loadProblem v b with
  | some m =>
    rw [snapshotLoad_of_problem hproblem]
    exact deliveriesOk_congr h rfl rfl
  | none =>
    rw [snapshotLoad_of_accepted hproblem, recomputeDerived_eq, armRasterCompare_eq]
    exact deliveriesOk_congr h rfl rfl

/-- A line is delivered under the number of the current line, so the condition on the lines needs the range of
`current_line` beside it. -/
theorem keptByParts_deliveriesOk : KeptByParts fun s => RangesOk s ∧ DeliveriesOk s where
  fetchAlarm hs h := ⟨rangesOk_fetchAlarm hs.1 h, by rw [fetchAlarm_frame h]; exact deliveriesOk_congr hs.2 rfl rfl⟩
  drawAlarm hs := ⟨rangesOk_drawAlarm hs.1, deliveriesOk_drawAlarm hs.1 hs.2⟩
  rasterIrqAlarm hs :=
    ⟨rangesOk_rasterIrqAlarm hs.1, by rw [rasterIrqAlarm_frame]; exact deliveriesOk_congr hs.2 rfl rfl⟩
  read hafter hs :=
    ⟨keptByParts_rangesOk.read hafter hs.1, by cases hafter <;> exact deliveriesOk_congr hs.2 rfl rfl⟩
  peek hs := ⟨keptByParts_rangesOk.peek hs.1, deliveriesOk_congr hs.2 rfl rfl⟩
  write heffect hs h :=
    ⟨rangesOk_write heffect hs.1 h, by rw [heffect.eq_withWritten h]; exact deliveriesOk_congr hs.2 rfl rfl⟩
  clockOverflow hs h :=
    ⟨keptByParts_rangesOk.clockOverflow hs.1 h, by
      obtain ⟨-, rfl⟩ := clockOverflow_ok h; exact deliveriesOk_congr hs.2 rfl rfl⟩
  badlineEval hs h := ⟨rangesOk_badlineEval hs.1 h, by rw [badlineEval_frame h]; exact deliveriesOk_congr hs.2 rfl rfl⟩
  fetchMatrix hs h :=
    ⟨keptByParts_rangesOk.fetchMatrix hs.1 h, by
      obtain ⟨-, -, -, rfl⟩ := fetchMatrix_ok h; rw [fetchColumns]; exact deliveriesOk_congr hs.2 rfl rfl⟩
  checkSpriteDma hs :=
    ⟨keptByParts_rangesOk.checkSpriteDma hs.1, by rw [checkSpriteDma]; exact deliveriesOk_congr hs.2 rfl rfl⟩
  fetchSprite hs h :=
    ⟨keptByParts_rangesOk.fetchSprite hs.1 h, by rw [fetchSprite_frame h]; exact deliveriesOk_congr hs.2 rfl rfl⟩
  drawLine hs := ⟨rangesOk_drawLine hs.1, deliveriesOk_drawLine hs.1 hs.2⟩
  resetBlock hs :=
    ⟨keptByParts_rangesOk.resetBlock hs.1, by rw [resetBlock_eq]; exact deliveriesOk_congr hs.2 rfl rfl⟩
  snapshotOut hs := ⟨keptByParts_rangesOk.snapshotOut hs.1, deliveriesOk_congr hs.2 rfl rfl⟩
  snapshotLoad hs := ⟨rangesOk_snapshotLoad hs.1, deliveriesOk_snapshotLoad hs.2⟩
  setVbank h1 h2 hs :=
    ⟨keptByParts_rangesOk.setVbank h1 h2 hs.1, by
      rw [setVbank, resolvePointers_eq]; exact deliveriesOk_congr hs.2 rfl rfl⟩
  setRamBase hs :=
    ⟨keptByParts_rangesOk.setRamBase hs.1, by
      rw [setRamBase, resolvePointers_eq]; exact deliveriesOk_congr hs.2 rfl rfl⟩
  lightpenTrigger hs :=
    ⟨keptByParts_rangesOk.lightpenTrigger hs.1, by rw [lightpenTrigger_frame]; exact deliveriesOk_congr hs.2 rfl rfl⟩
  videoRamStore hs :=
    ⟨keptByParts_rangesOk.videoRamStore hs.1, by rw [videoRamStore_frame]; exact deliveriesOk_congr hs.2 rfl rfl⟩
  accept hs := ⟨keptByParts_rangesOk.accept hs.1, deliveriesOk_congr hs.2 rfl rfl⟩
  present hs := ⟨keptByParts_rangesOk.present hs.1, by rw [present_frame]; exact deliveriesOk_congr hs.2 rfl rfl⟩

/-- Settles O57: by `keptByParts_deliveriesOk`, with the ranges that the number of a delivered line needs. -/
theorem stepKeepsDeliveriesComplete : Obligations.StepKeepsDeliveriesComplete :=
  fun _ _ hranges hlines h => (keptByParts_deliveriesOk.step ⟨hranges, hlines⟩ h).2

end Sys2Proof.Machine

/-! PROOFS. The derived registers (60_exceptions.md R259, 10_state.md R16, R33, 40_register_file.md R96): each part of
an operation leaves them as the registers determine them. -/

namespace Sys2Proof.Machine

/-! The clauses and what they read. -/

/-- The compare value, and the raster alarm that is off where it lies off the screen (40_register_file.md R96): the
clauses of `DerivedOk` that the raster compare sets. -/
abbrev CompareOk (s : State) : Prop :=
  s.rasterIrqLine = compareLine (s.reg 0x11) (s.reg 0x12) ∧
    (s.cfg.screenHeight ≤ s.rasterIrqLine.toNat → s.rasterIrqClk = s.cfg.clockMax)

/-- The derived registers other than the interrupt request do not depend on the mask, register 0x1A. -/
theorem derivedOk_of_requestOk {s t : State} (h : DerivedOk s) (hrequest : RequestOk t) (hcfg : t.cfg = s.cfg)
    (hreg : ∀ a, a ≠ 0x1A → t.reg a = s.reg a) (hmode : t.videoMode = s.videoMode)
    (hline : t.rasterIrqLine = s.rasterIrqLine) (hclk : t.rasterIrqClk = s.rasterIrqClk)
    (htop : t.borderTop = s.borderTop) (hbottom : t.borderBottom = s.borderBottom) : DerivedOk t := by
  obtain ⟨-, hrest⟩ := h
  refine ⟨hrequest, ?_⟩
  rw [hcfg, hmode, hline, hclk, htop, hbottom, hreg 0x11 (by decide), hreg 0x12 (by decide), hreg 0x16 (by decide)]
  exact hrest

theorem derivedOk_congr {s t : State} (h : DerivedOk s) (hcfg : t.cfg = s.cfg) (hregs : t.regs = s.regs)
    (hstatus : t.irqStatus = s.irqStatus) (hirq : t.irqLine = s.irqLine) (hmode : t.videoMode = s.videoMode)
    (hline : t.rasterIrqLine = s.rasterIrqLine) (hclk : t.rasterIrqClk = s.rasterIrqClk)
    (htop : t.borderTop = s.borderTop) (hbottom : t.borderBottom = s.borderBottom) : DerivedOk t := by
  refine derivedOk_of_requestOk h ?_ hcfg (fun a _ => congrArg (·[a.toFin]) hregs) hmode hline hclk htop hbottom
  obtain ⟨hrequest, -⟩ := h
  rw [RequestOk, State.reg, hirq, hstatus, hregs]
  exact hrequest

/-! The alarms. -/

theorem derivedOk_raiseIrq {s : State} (h : DerivedOk s) (src : IrqSource) : DerivedOk (raiseIrq src s) :=
  derivedOk_of_requestOk h rfl rfl (fun _ _ => rfl) rfl rfl rfl rfl rfl

/-- An alarm that has fired was armed, so its compare line is on the screen and it may be rearmed (41_scheduler.md
R151). -/
theorem derivedOk_rasterIrqAlarm {s : State} (h : DerivedOk s) : DerivedOk (rasterIrqAlarm s) := by
  rw [rasterIrqAlarm]
  split
  case isTrue => exact h
  case isFalse harmed =>
    obtain ⟨-, hmode, hline, hoff, hrows⟩ := h
    exact ⟨rfl, hmode, hline, fun hhigh => absurd (hoff hhigh) harmed, hrows⟩

theorem derivedOk_drawLine {s : State} (h : DerivedOk s) : DerivedOk (drawLine s) := by
  rw [drawLine_frame]
  exact derivedOk_congr h rfl rfl rfl rfl rfl rfl rfl rfl rfl

theorem derivedOk_collisionIrqs {s : State} (h : DerivedOk s) : DerivedOk (collisionIrqs s) := by
  obtain ⟨hrequest, -⟩ := id h
  rw [collisionIrqs_eq hrequest]
  exact derivedOk_of_requestOk h (requestOk_withStatusBits _ _) rfl (fun _ _ => rfl) rfl rfl rfl rfl rfl

theorem derivedOk_drawAlarm {s : State} (h : DerivedOk s) : DerivedOk (drawAlarm s) := by
  refine derivedOk_congr (derivedOk_collisionIrqs (derivedOk_drawLine h)) ?_ ?_ ?_ ?_ ?_ ?_ ?_ ?_ ?_ <;>
    simp [drawAlarm]

theorem compareOk_armRasterCompare (s : State) : CompareOk (armRasterCompare s) := by
  rw [armRasterCompare_eq]
  exact ⟨rfl, fun hhigh => if_pos hhigh⟩

/-- RECOMPUTE_DERIVED derives them from the registers of the body (45_snapshot.md R249). -/
theorem derivedOk_recomputeDerived (s : State) : DerivedOk (recomputeDerived s) := by
  obtain ⟨hline, hoff⟩ := compareOk_armRasterCompare s
  rw [recomputeDerived_eq]
  rw [armRasterCompare_eq] at hline hoff ⊢
  exact ⟨rfl, rfl, hline, hoff, rfl⟩

/-! The WRITEs. -/

theorem compareOk_updateRasterCompare (s : State) : CompareOk (updateRasterCompare s) := by
  rw [updateRasterCompare]
  split
  · exact compareOk_armRasterCompare s
  · exact compareOk_armRasterCompare s

theorem requestOk_updateRasterCompare {s : State} (h : RequestOk s) : RequestOk (updateRasterCompare s) := by
  rw [updateRasterCompare, armRasterCompare_eq]
  split
  · rfl
  · exact h

/-- The registers that none of the derived ones depends on. -/
abbrev FreeRegister (a : RegAddr) : Prop := a ≠ 0x11 ∧ a ≠ 0x12 ∧ a ≠ 0x16 ∧ a ≠ 0x1A

theorem derivedOk_setReg {s : State} (h : DerivedOk s) {a : RegAddr} (ha : FreeRegister a) (v : Byte) :
    DerivedOk (s.setReg a v) := by
  obtain ⟨h11, h12, h16, h1A⟩ := ha
  simp only [DerivedOk, reg_setReg, if_neg h11, if_neg h12, if_neg h16, if_neg h1A]
  exact h

theorem freeRegister_of_plain : ∀ a ∈ plainRegisters, FreeRegister a := by decide

theorem freeRegister_of_colour {wc : BitVec 2} {v : Byte} :
    ∀ p ∈ colourWrites wc v, FreeRegister p.2.1 := by
  have haddr : (colourWrites wc v).map (fun p => p.2.1) = (colourWrites 0 0).map fun p => p.2.1 := rfl
  have hfree : ∀ a ∈ (colourWrites 0 0).map fun p => p.2.1, FreeRegister a := by decide
  exact fun p hp => hfree _ (haddr ▸ List.mem_map_of_mem hp)

theorem derivedOk_storeCr1 {s : State} (h : DerivedOk s) (v : Byte) : DerivedOk (storeCr1 v s) := by
  obtain ⟨hrequest, -⟩ := h
  have hset : RequestOk (s.setReg 0x11 v) := by
    rw [RequestOk, reg_setReg, if_neg (by decide)]
    exact hrequest
  have hcr1 : (updateRasterCompare (s.setReg 0x11 v)).reg 0x11 = v := by
    rw [State.reg, updateRasterCompare_regs]
    exact (reg_setReg s 0x11 0x11 v).trans (if_pos rfl)
  have hcr2 : (updateRasterCompare (s.setReg 0x11 v)).reg 0x16 = s.reg 0x16 := by
    rw [State.reg, updateRasterCompare_regs]
    exact (reg_setReg s 0x11 0x16 v).trans (if_neg (by decide))
  have hcfg : (updateRasterCompare (s.setReg 0x11 v)).cfg = s.cfg := updateRasterCompare_cfg _
  obtain ⟨hline, hoff⟩ := compareOk_updateRasterCompare (s.setReg 0x11 v)
  rw [storeCr1_eq]
  refine ⟨requestOk_updateRasterCompare hset, ?_, hline, hoff, ?_⟩
  · show modeOfRegs v (s.reg 0x16) = modeOfRegs ((updateRasterCompare (s.setReg 0x11 v)).reg 0x11)
      ((updateRasterCompare (s.setReg 0x11 v)).reg 0x16)
    rw [hcr1, hcr2]
  · show s.cfg.rows (v.getLsbD 3) = (updateRasterCompare (s.setReg 0x11 v)).cfg.rows
      (((updateRasterCompare (s.setReg 0x11 v)).reg 0x11).getLsbD 3)
    rw [hcr1, hcfg]

theorem derivedOk_writeRaster {s : State} (h : DerivedOk s) (v : Byte) :
    DerivedOk (updateRasterCompare (s.setReg 0x12 v)) := by
  obtain ⟨hrequest, hmode, -, -, hrows⟩ := h
  have hset : RequestOk (s.setReg 0x12 v) := by
    rw [RequestOk, reg_setReg, if_neg (by decide)]
    exact hrequest
  have hcr : ∀ a ≠ 0x12#6, (updateRasterCompare (s.setReg 0x12 v)).reg a = s.reg a := fun a ha => by
    rw [State.reg, updateRasterCompare_regs]
    exact (reg_setReg s 0x12 a v).trans (if_neg ha.symm)
  obtain ⟨hline, hoff⟩ := compareOk_updateRasterCompare (s.setReg 0x12 v)
  refine ⟨requestOk_updateRasterCompare hset, ?_, hline, hoff, ?_⟩
  · rw [hcr _ (by decide), hcr _ (by decide), updateRasterCompare_videoMode]
    exact hmode
  · rw [hcr _ (by decide), updateRasterCompare_cfg, updateRasterCompare_borderTop, updateRasterCompare_borderBottom]
    exact hrows

theorem derivedOk_badlineEval {old new : Byte} {y c : Nat} {s t : State} (h : DerivedOk s)
    (ht : badlineEval old new y c s = .ok t) : DerivedOk t := by
  rw [badlineEval_frame ht]
  exact derivedOk_congr h rfl rfl rfl rfl rfl rfl rfl rfl rfl

theorem derivedOk_write {wc : BitVec 2} {v : Byte} {effect : State → Except Fault State} {s t : State}
    (heffect : WriteEffect wc v effect) (h : DerivedOk s) (ht : effect s = .ok t) : DerivedOk t := by
  cases heffect with
  | cr1 => exact derivedOk_badlineEval (derivedOk_storeCr1 h v) ht
  | raster => cases ht; exact derivedOk_writeRaster h v
  | store ha => cases ht; exact derivedOk_setReg h (freeRegister_of_plain _ ha) v
  | ignored => cases ht; exact h
  | colour hp =>
    rw [writeColour, addChangeIf_bne] at ht
    cases ht
    exact derivedOk_congr (derivedOk_setReg h (freeRegister_of_colour _ hp) v) rfl rfl rfl rfl rfl rfl rfl rfl rfl
  | yxpand =>
    cases ht
    exact derivedOk_congr (derivedOk_setReg h (a := 0x17) (by decide) v) rfl rfl rfl rfl rfl rfl rfl rfl rfl
  | vmcsb =>
    rw [writeVmcsb, resolvePointers_eq] at ht
    cases ht
    exact derivedOk_congr (derivedOk_setReg h (a := 0x18) (by decide) v) rfl rfl rfl rfl rfl rfl rfl rfl rfl
  | vicirq =>
    cases ht
    exact derivedOk_of_requestOk h rfl rfl (fun _ _ => rfl) rfl rfl rfl rfl rfl
  | irqmask =>
    cases ht
    exact derivedOk_of_requestOk h rfl rfl (fun a ha => (reg_setReg s 0x1A a v).trans (if_neg ha.symm)) rfl rfl rfl
      rfl rfl
  | cr2 =>
    simp only [writeCr2, addChangeIf_bne] at ht
    cases ht
    obtain ⟨hrequest, -, hline, hoff, hrows⟩ := h
    have hother : ∀ a, a ≠ 0x16 → (s.setReg 0x16 v).reg a = s.reg a := fun a ha =>
      (reg_setReg s 0x16 a v).trans (if_neg ha.symm)
    refine ⟨?_, ?_, ?_, hoff, ?_⟩
    · exact hrequest.trans (congrArg _ (hother 0x1A (by decide)).symm)
    · exact (congrArg₂ modeOfRegs (hother 0x11 (by decide)) ((reg_setReg s 0x16 0x16 v).trans (if_pos rfl))).symm
    · exact hline.trans (congrArg₂ compareLine (hother 0x11 (by decide)) (hother 0x12 (by decide))).symm
    · exact hrows.trans (congrArg (fun b : Byte => s.cfg.rows (b.getLsbD 3)) (hother 0x11 (by decide)).symm)

theorem keptByParts_derivedOk : KeptByParts DerivedOk where
  fetchAlarm hs h := by rw [fetchAlarm_frame h]; exact derivedOk_congr hs rfl rfl rfl rfl rfl rfl rfl rfl rfl
  drawAlarm := derivedOk_drawAlarm
  rasterIrqAlarm := derivedOk_rasterIrqAlarm
  read hafter hs := by cases hafter <;> exact derivedOk_congr hs rfl rfl rfl rfl rfl rfl rfl rfl rfl
  peek hs := derivedOk_congr hs rfl rfl rfl rfl rfl rfl rfl rfl rfl
  write := derivedOk_write
  clockOverflow hs h := by
    obtain ⟨-, rfl⟩ := clockOverflow_ok h
    obtain ⟨hrequest, hmode, hline, hoff, hrows⟩ := hs
    exact ⟨hrequest, hmode, hline, fun hhigh => if_pos (hoff hhigh) |>.trans (hoff hhigh), hrows⟩
  badlineEval := derivedOk_badlineEval
  fetchMatrix hs h := by
    obtain ⟨-, -, -, rfl⟩ := fetchMatrix_ok h
    rw [fetchColumns]
    exact derivedOk_congr hs rfl rfl rfl rfl rfl rfl rfl rfl rfl
  checkSpriteDma hs := by rw [checkSpriteDma]; exact derivedOk_congr hs rfl rfl rfl rfl rfl rfl rfl rfl rfl
  fetchSprite hs h := by rw [fetchSprite_frame h]; exact derivedOk_congr hs rfl rfl rfl rfl rfl rfl rfl rfl rfl
  drawLine := derivedOk_drawLine
  resetBlock {s} _ := by
    rw [resetBlock_eq]
    exact ⟨(by decide : false = irqRequest 0 0), (by decide : VideoMode.normalText = modeOfRegs 0 0),
      (by decide : 0#16 = compareLine 0 0), fun hhigh => absurd hhigh (Nat.not_le.2 (screenHeight_pos s.cfg.toConfig)),
      congrArg s.cfg.rows (by decide : false = (0#8 : Byte).getLsbD 3)⟩
  snapshotOut hs := derivedOk_congr hs rfl rfl rfl rfl rfl rfl rfl rfl rfl
  snapshotLoad {v b s} hs := by
    cases hproblem : s.loadProblem v b with
    | some m =>
      rw [snapshotLoad_of_problem hproblem]
      exact derivedOk_congr hs rfl rfl rfl rfl rfl rfl rfl rfl rfl
    | none =>
      rw [snapshotLoad_of_accepted hproblem]
      exact derivedOk_recomputeDerived _
  setVbank _ _ hs := by
    rw [setVbank, resolvePointers_eq]; exact derivedOk_congr hs rfl rfl rfl rfl rfl rfl rfl rfl rfl
  setRamBase hs := by
    rw [setRamBase, resolvePointers_eq]; exact derivedOk_congr hs rfl rfl rfl rfl rfl rfl rfl rfl rfl
  lightpenTrigger hs := by
    rw [lightpenTrigger]
    split
    · exact hs
    · exact derivedOk_raiseIrq (derivedOk_congr hs rfl rfl rfl rfl rfl rfl rfl rfl rfl) .ilp
  videoRamStore hs := by rw [videoRamStore_frame]; exact derivedOk_congr hs rfl rfl rfl rfl rfl rfl rfl rfl rfl
  accept hs := derivedOk_congr hs rfl rfl rfl rfl rfl rfl rfl rfl rfl
  present hs := by rw [present_frame]; exact derivedOk_congr hs rfl rfl rfl rfl rfl rfl rfl rfl rfl

/-- Settles O55: each part of an operation keeps the derived registers, so every step does. -/
theorem stepKeepsDerivedRegisters : Obligations.StepKeepsDerivedRegisters :=
  fun _ _ hs h => keptByParts_derivedOk.step hs h

end Sys2Proof.Machine

/-! PROOFS. The renderer targets (44_renderer.md R204): after the queued changes each has the value the registers and
the resolver give it, whatever operation has run. -/

namespace Sys2Proof.Machine

/-! What the targets read. -/

theorem renderFromRegs_congr {s t : State} (hregs : t.regs = s.regs) (hbank : t.vbankPhi1 = s.vbankPhi1) :
    t.renderFromRegs = s.renderFromRegs := by
  simp only [State.renderFromRegs, State.colour, State.screenAddr, State.charAddr, State.bitmapAddr, State.reg, hregs,
    hbank]

theorem targetsOk_congr {s t : State} (h : TargetsOk s) (hchanges : t.changes = s.changes)
    (hstart : t.lineStart = s.lineStart) (hregs : t.regs = s.regs) (hbank : t.vbankPhi1 = s.vbankPhi1) :
    TargetsOk t := by
  rw [TargetsOk, renderFromRegs_congr hregs hbank, State.renderEnd, hchanges, hstart]
  exact h

/-- The registers that the renderer reads through its targets (40_register_file.md section 17). -/
def targetRegisters : List RegAddr := [0x11, 0x16, 0x18] ++ (colourWrites 0 0).map fun p => p.2.1

theorem renderFromRegs_setReg_of_not_mem (s : State) {a : RegAddr} (ha : a ∉ targetRegisters) (v : Byte) :
    (s.setReg a v).renderFromRegs = s.renderFromRegs := by
  have hreg : ∀ b ∈ targetRegisters, (s.setReg a v).reg b = s.reg b := fun b hb =>
    (reg_setReg s a b v).trans (if_neg fun hab : a = b => ha (hab ▸ hb))
  simp only [targetRegisters, colourWrites, List.map_cons, List.map_nil, List.cons_append, List.nil_append,
    List.forall_mem_cons] at hreg
  simp only [State.renderFromRegs, State.colour, State.screenAddr, State.charAddr, State.bitmapAddr, setReg_vbankPhi1,
    hreg]

theorem targetsOk_setReg {s : State} (h : TargetsOk s) {a : RegAddr} (ha : a ∉ targetRegisters) (v : Byte) :
    TargetsOk (s.setReg a v) :=
  h.trans (renderFromRegs_setReg_of_not_mem s ha v).symm

/-! The queue. -/

/-- A change that is queued only where it changes the target's last value leaves the target at the new value in either
case (40_register_file.md R130). -/
theorem addChangeIf_renderEnd {α : Type} [DecidableEq α] {new old : α} {v : TargetValue} {u : State} {r : RenderRegs}
    (hend : u.renderEnd = r) (hsame : new = old → r.assign v = r) :
    (addChangeIf (new != old) v u).renderEnd = r.assign v := by
  rw [addChangeIf_bne, renderEnd_append, hend]
  split
  case isTrue h => exact (hsame h).symm
  case isFalse => rfl

theorem addChangeIf_renderFromRegs (b : Bool) (v : TargetValue) (u : State) :
    (addChangeIf b v u).renderFromRegs = u.renderFromRegs := by
  cases b <;> rfl

/-- RESOLVE_POINTERS leaves the three pointers at what the resolver gives (40_register_file.md R126 to R129). -/
theorem resolvePointers_renderEnd (s : State) : (resolvePointers s).renderEnd =
    { s.renderEnd with screenBase := s.screenAddr, charBase := s.charAddr, bitmapBase := s.bitmapAddr } := by
  rw [resolvePointers_eq, renderEnd_append]
  split_ifs with hscreen hchar hbitmap <;> simp [RenderRegs.assign, *]

theorem resolvePointers_renderFromRegs (s : State) : (resolvePointers s).renderFromRegs = s.renderFromRegs := by
  rw [resolvePointers_eq]
  rfl

/-- The pointers are all that a change of the resolver's inputs changes, so RESOLVE_POINTERS makes the targets right
again. -/
theorem targetsOk_resolvePointers {s u : State} (h : TargetsOk s) (hend : u.renderEnd = s.renderEnd)
    (hfrom : u.renderFromRegs =
      { s.renderFromRegs with screenBase := u.screenAddr, charBase := u.charAddr, bitmapBase := u.bitmapAddr }) :
    TargetsOk (resolvePointers u) := by
  rw [TargetsOk, resolvePointers_renderEnd, resolvePointers_renderFromRegs, hend, hfrom, h]

/-! The WRITEs. -/

theorem targetsOk_updateRasterCompare {s : State} (h : TargetsOk s) : TargetsOk (updateRasterCompare s) := by
  refine targetsOk_congr h ?_ ?_ ?_ ?_ <;> simp

/-- The mode depends on bits 6:5 of CR1 only (10_state.md R16). -/
theorem modeOfRegs_of_extractLsb'_eq {v w cr2 : Byte} (h : v.extractLsb' 5 2 = w.extractLsb' 5 2) :
    modeOfRegs v cr2 = modeOfRegs w cr2 := by
  have h5 := congrArg (·.getLsbD 0) h
  have h6 := congrArg (·.getLsbD 1) h
  simp at h5 h6
  simp [modeOfRegs, h5, h6]

theorem targetsOk_storeCr1 {s : State} (h : TargetsOk s) (v : Byte) : TargetsOk (storeCr1 v s) := by
  have hset : (s.setReg 0x11 v).renderFromRegs =
      s.renderFromRegs.assign (.videoMode (modeOfRegs v (s.reg 0x16))) := by
    simp [State.renderFromRegs, State.colour, State.screenAddr, State.charAddr, State.bitmapAddr, reg_setReg,
      RenderRegs.assign]
  have hstored : TargetsOk (addChangeIf (v.extractLsb' 5 2 != (s.reg 0x11).extractLsb' 5 2)
      (.videoMode (modeOfRegs v (s.reg 0x16))) (s.setReg 0x11 v)) := by
    rw [TargetsOk, addChangeIf_renderFromRegs, hset]
    exact addChangeIf_renderEnd h fun heq => by rw [modeOfRegs_of_extractLsb'_eq heq]; rfl
  rw [addChangeIf_bne] at hstored
  rw [storeCr1_eq]
  exact targetsOk_congr hstored rfl (updateRasterCompare_lineStart _) (updateRasterCompare_regs _)
    (updateRasterCompare_vbankPhi1 _)

/-- The mode depends on bit 4 of CR2 only (10_state.md R16). -/
theorem modeOfRegs_of_getLsbD_eq {cr1 v w : Byte} (h : v.getLsbD 4 = w.getLsbD 4) :
    modeOfRegs cr1 v = modeOfRegs cr1 w := by
  rw [modeOfRegs, h, modeOfRegs]

theorem targetsOk_writeCr2 {s t : State} (h : TargetsOk s) {v : Byte} (ht : writeCr2 v s = .ok t) : TargetsOk t := by
  cases ht
  have hset : (s.setReg 0x16 v).renderFromRegs = ((s.renderFromRegs.assign (.xsmooth (v.extractLsb' 0 3))).assign
      (.videoMode (modeOfRegs (s.reg 0x11) v))).assign (.columnMode (v.getLsbD 3)) := by
    simp [State.renderFromRegs, State.colour, State.screenAddr, State.charAddr, State.bitmapAddr, reg_setReg,
      RenderRegs.assign]
  have hend : { s.setReg 0x16 v with videoMode := modeOfRegs (s.reg 0x11) v }.renderEnd = s.renderFromRegs := h
  have hxsmooth := addChangeIf_renderEnd (v := .xsmooth (v.extractLsb' 0 3)) hend
    fun heq : v.extractLsb' 0 3 = (s.reg 0x16).extractLsb' 0 3 => by rw [heq]; rfl
  have hmode := addChangeIf_renderEnd (v := .videoMode (modeOfRegs (s.reg 0x11) v)) hxsmooth
    fun heq : v.getLsbD 4 = (s.reg 0x16).getLsbD 4 => by rw [modeOfRegs_of_getLsbD_eq heq]; rfl
  have hcolumn := addChangeIf_renderEnd (v := .columnMode (v.getLsbD 3)) hmode
    fun heq : v.getLsbD 3 = (s.reg 0x16).getLsbD 3 => by rw [heq]; rfl
  simp only [TargetsOk, addChangeIf_renderFromRegs]
  exact hcolumn.trans hset.symm

theorem renderFromRegs_setReg_colour (s : State) (wc : BitVec 2) (v : Byte) :
    ∀ p ∈ colourWrites wc v, (s.setReg p.2.1 v).renderFromRegs = s.renderFromRegs.assign p.2.2 := by
  simp only [colourWrites, List.forall_mem_cons]
  refine ⟨?_, ?_, ?_, ?_, ?_, ?_, ?_, ?_, ?_, ?_, ?_, ?_, ?_, ?_, ?_, fun _ h => nomatch h⟩ <;>
    simp [State.renderFromRegs, State.colour, State.screenAddr, State.charAddr, State.bitmapAddr, reg_setReg,
      RenderRegs.assign]

theorem assign_colour_of_same (s : State) (wc : BitVec 2) (v : Byte) : ∀ p ∈ colourWrites wc v,
    v.extractLsb' 0 4 = s.colour p.2.1 → s.renderFromRegs.assign p.2.2 = s.renderFromRegs := by
  simp only [colourWrites, List.forall_mem_cons]
  refine ⟨?_, ?_, ?_, ?_, ?_, ?_, ?_, ?_, ?_, ?_, ?_, ?_, ?_, ?_, ?_, fun _ h => nomatch h⟩ <;>
    intro hsame <;> rw [hsame] <;> rfl

theorem targetsOk_colour {wc : BitVec 2} {v : Byte} {p : Instr × RegAddr × TargetValue} (hp : p ∈ colourWrites wc v)
    {s t : State} (h : TargetsOk s) (ht : writeColour p.2.1 (fun _ => p.2.2) v s = .ok t) : TargetsOk t := by
  cases ht
  rw [TargetsOk, addChangeIf_renderFromRegs, renderFromRegs_setReg_colour s wc v p hp]
  exact addChangeIf_renderEnd h (assign_colour_of_same s wc v p hp)

theorem targetsOk_badlineEval {old new : Byte} {y c : Nat} {s t : State} (h : TargetsOk s)
    (ht : badlineEval old new y c s = .ok t) : TargetsOk t := by
  rw [badlineEval_frame ht]
  exact targetsOk_congr h rfl rfl rfl rfl

theorem plainRegisters_not_targets : ∀ a ∈ plainRegisters, a ∉ targetRegisters := by decide

theorem targetsOk_write {wc : BitVec 2} {v : Byte} {effect : State → Except Fault State} {s t : State}
    (heffect : WriteEffect wc v effect) (h : TargetsOk s) (ht : effect s = .ok t) : TargetsOk t := by
  cases heffect with
  | cr1 => exact targetsOk_badlineEval (targetsOk_storeCr1 h v) ht
  | raster => cases ht; exact targetsOk_updateRasterCompare (targetsOk_setReg h (by decide) v)
  | store ha => cases ht; exact targetsOk_setReg h (plainRegisters_not_targets _ ha) v
  | ignored => cases ht; exact h
  | colour hp => exact targetsOk_colour hp h ht
  | yxpand => cases ht; exact targetsOk_congr (targetsOk_setReg h (a := 0x17) (by decide) v) rfl rfl rfl rfl
  | vmcsb =>
    cases ht
    refine targetsOk_resolvePointers h rfl ?_
    simp [State.renderFromRegs, State.colour, reg_setReg]
  | vicirq => cases ht; exact targetsOk_congr h rfl rfl rfl rfl
  | irqmask => cases ht; exact targetsOk_congr (targetsOk_setReg h (a := 0x1A) (by decide) v) rfl rfl rfl rfl
  | cr2 => exact targetsOk_writeCr2 h ht

/-! The other parts. -/

/-- The queue is drained into the line-start values (44_renderer.md R204). -/
theorem targetsOk_drawLine {s : State} (h : TargetsOk s) : TargetsOk (drawLine s) := by
  have hend : (drawLine s).renderEnd = s.renderEnd := by
    rw [State.renderEnd, drawLine_changes, drawLine_lineStart]
    rfl
  rw [TargetsOk, hend, renderFromRegs_congr (drawLine_regs s) (drawLine_vbankPhi1 s)]
  exact h

theorem targetsOk_drawAlarm {s : State} (h : TargetsOk s) : TargetsOk (drawAlarm s) := by
  refine targetsOk_congr (targetsOk_drawLine h) ?_ ?_ ?_ ?_ <;> simp [drawAlarm]

/-- RECOMPUTE_DERIVED puts every target at what the registers give it (45_snapshot.md R249). -/
theorem targetsOk_recomputeDerived (s : State) : TargetsOk (recomputeDerived s) := by
  rw [recomputeDerived_eq, armRasterCompare_eq]
  rfl

theorem targetsOk_snapshotLoad {v : Version} {b : List Byte} {s : State} (h : TargetsOk s) :
    TargetsOk (snapshotLoad v b s) := by
  cases hproblem : s.loadProblem v b with
  | some m =>
    rw [snapshotLoad_of_problem hproblem]
    exact targetsOk_congr h rfl rfl rfl rfl
  | none =>
    rw [snapshotLoad_of_accepted hproblem]
    exact targetsOk_recomputeDerived _

theorem keptByParts_targetsOk : KeptByParts TargetsOk where
  fetchAlarm hs h := by rw [fetchAlarm_frame h]; exact targetsOk_congr hs rfl rfl rfl rfl
  drawAlarm := targetsOk_drawAlarm
  rasterIrqAlarm hs := by rw [rasterIrqAlarm_frame]; exact targetsOk_congr hs rfl rfl rfl rfl
  read hafter hs := by cases hafter <;> exact targetsOk_congr hs rfl rfl rfl rfl
  peek hs := targetsOk_congr hs rfl rfl rfl rfl
  write := targetsOk_write
  clockOverflow hs h := by obtain ⟨-, rfl⟩ := clockOverflow_ok h; exact targetsOk_congr hs rfl rfl rfl rfl
  badlineEval := targetsOk_badlineEval
  fetchMatrix hs h := by
    obtain ⟨-, -, -, rfl⟩ := fetchMatrix_ok h
    rw [fetchColumns]
    exact targetsOk_congr hs rfl rfl rfl rfl
  checkSpriteDma hs := by rw [checkSpriteDma]; exact targetsOk_congr hs rfl rfl rfl rfl
  fetchSprite hs h := by rw [fetchSprite_frame h]; exact targetsOk_congr hs rfl rfl rfl rfl
  drawLine := targetsOk_drawLine
  resetBlock {s} _ := by
    have hzero : ∀ a, (resetBlock s).reg a = 0 := fun a => by simp [resetBlock_eq, State.reg, State.reset]
    rw [TargetsOk, renderFromRegs_of_reg_zero hzero, resetBlock_eq]
    rfl
  snapshotOut hs := targetsOk_congr hs rfl rfl rfl rfl
  snapshotLoad := targetsOk_snapshotLoad
  setVbank _ _ hs := targetsOk_resolvePointers hs rfl rfl
  setRamBase hs := targetsOk_resolvePointers hs rfl rfl
  lightpenTrigger hs := by rw [lightpenTrigger_frame]; exact targetsOk_congr hs rfl rfl rfl rfl
  videoRamStore hs := by rw [videoRamStore_frame]; exact targetsOk_congr hs rfl rfl rfl rfl
  accept hs := targetsOk_congr hs rfl rfl rfl rfl
  present hs := by rw [present_frame]; exact targetsOk_congr hs rfl rfl rfl rfl

/-- Settles O56: each part of an operation keeps the targets, so every step does. -/
theorem stepKeepsRendererTargets : Obligations.StepKeepsRendererTargets :=
  fun _ _ hs h => keptByParts_targetsOk.step hs h

end Sys2Proof.Machine

/-! PROOFS. Who writes the registers, `last_read` and the memories (10_state.md R11, R21, R26), and the canonical form
of the memories that every step keeps (log 10). -/

namespace Sys2Proof.Machine

/-! Who writes what. -/

/-- The registers, `last_read`, the memories and the configuration of `t` are those of `s`. -/
structure Untouched (s t : State) : Prop where
  regs : t.regs = s.regs
  lastRead : t.lastRead = s.lastRead
  colorRam : t.colorRam = s.colorRam
  ram : t.ram = s.ram
  cfg : t.cfg = s.cfg
  chargen : t.chargen = s.chargen
  romh : t.romh = s.romh

theorem Untouched.refl (s : State) : Untouched s s := ⟨rfl, rfl, rfl, rfl, rfl, rfl, rfl⟩

theorem Untouched.trans {s t u : State} (hst : Untouched s t) (htu : Untouched t u) : Untouched s u :=
  ⟨htu.regs.trans hst.regs, htu.lastRead.trans hst.lastRead, htu.colorRam.trans hst.colorRam, htu.ram.trans hst.ram,
    htu.cfg.trans hst.cfg, htu.chargen.trans hst.chargen, htu.romh.trans hst.romh⟩

theorem untouched_of_withServed {s t : State} (h : t = s.withServed t) : Untouched s t := by
  rw [h]; exact ⟨rfl, rfl, rfl, rfl, rfl, rfl, rfl⟩

theorem untouched_flush {wc : Nat} {s t : State} (h : flush wc s = .ok t) : Untouched s t :=
  untouched_of_withServed (flush_eq_withServed h)

theorem untouched_rasterIrqAlarm (s : State) : Untouched s (rasterIrqAlarm s) := by
  rw [rasterIrqAlarm_frame]; exact ⟨rfl, rfl, rfl, rfl, rfl, rfl, rfl⟩

theorem untouched_advance {s t : State} (h : advance s = .ok t) : Untouched s t :=
  advance_keeps (P := Untouched s) (fun _ _ hu hv => hu.trans (untouched_of_withServed (fetchAlarm_eq_withServed hv)))
    (fun _ hu => hu.trans (untouched_of_withServed (drawAlarm_eq_withServed _)))
    (fun _ hu => hu.trans (untouched_rasterIrqAlarm _)) (.refl s) h

/-- What the operation `i` may have written, from `s` to `t`: the conclusion of the obligation. -/
def WritesAsNamed (i : Instr) (s t : State) : Prop :=
  (t.regs ≠ s.regs → i.fields.op = 1 ∨ i = .eventReset ∨ i = .eventSnapshotLoad) ∧
    (t.lastRead ≠ s.lastRead → i.fields.op = 0 ∨ i = .eventReset ∨ i = .eventSnapshotLoad) ∧
    (t.colorRam ≠ s.colorRam → i = .eventVideoRamStore ∨ i = .eventSnapshotLoad) ∧
    (t.ram ≠ s.ram → i = .eventVideoRamStore) ∧
    t.cfg = s.cfg ∧ t.chargen = s.chargen ∧ t.romh = s.romh

theorem Untouched.writesAsNamed {i : Instr} {s t : State} (h : Untouched s t) : WritesAsNamed i s t :=
  ⟨fun hne => absurd h.regs hne, fun hne => absurd h.lastRead hne, fun hne => absurd h.colorRam hne,
    fun hne => absurd h.ram hne, h.cfg, h.chargen, h.romh⟩

/-- An operation that begins with the flush writes what the rest of it writes. -/
theorem Untouched.trans_writesAsNamed {i : Instr} {s u t : State} (h : Untouched s u) (hu : WritesAsNamed i u t) :
    WritesAsNamed i s t := by
  obtain ⟨hregs, hread, hcolor, hram, hcfg, hchargen, hromh⟩ := hu
  refine ⟨?_, ?_, ?_, ?_, hcfg.trans h.cfg, hchargen.trans h.chargen, hromh.trans h.romh⟩
  · rwa [h.regs] at hregs
  · rwa [h.lastRead] at hread
  · rwa [h.colorRam] at hcolor
  · rwa [h.ram] at hram

theorem writesAsNamed_of_afterFlush {i : Instr} {f : State → Except Fault State}
    (hf : ∀ u t, f u = .ok t → WritesAsNamed i u t) {s t : State} (h : afterFlush f s = .next t) :
    WritesAsNamed i s t := by
  obtain ⟨s1, hflush, hf1⟩ := bind_eq_ok.1 (answer_eq_next.1 h)
  exact (untouched_flush hflush).trans_writesAsNamed (hf s1 t hf1)

theorem writesAsNamed_of_afterFlush_total {i : Instr} {f : State → State} (hf : ∀ u, WritesAsNamed i u (f u))
    {s t : State} (h : afterFlush (fun u => .ok (f u)) s = .next t) : WritesAsNamed i s t :=
  writesAsNamed_of_afterFlush (fun u _ he => by cases he; exact hf u) h

theorem writesAsNamed_of_read {i : Instr} (hop : i.fields.op = 0) {after : State → State} (h : ReadEffect after)
    (v : Byte) (s : State) : WritesAsNamed i s ((after s).returnRead v) := by
  cases h <;>
    exact ⟨fun hne => absurd rfl hne, fun _ => .inl hop, fun hne => absurd rfl hne, fun hne => absurd rfl hne, rfl,
      rfl, rfl⟩

theorem writesAsNamed_of_write {i : Instr} (hop : i.fields.op = 1) {wc : BitVec 2} {v : Byte}
    {effect : State → Except Fault State} (h : WriteEffect wc v effect) {s t : State} (ht : effect s = .ok t) :
    WritesAsNamed i s t := by
  rw [h.eq_withWritten ht]
  exact ⟨fun _ => .inl hop, fun hne => absurd rfl hne, fun hne => absurd rfl hne, fun hne => absurd rfl hne, rfl, rfl,
    rfl⟩

theorem writesAsNamed_resetBlock (s : State) : WritesAsNamed .eventReset s (resetBlock s) := by
  rw [resetBlock_eq]
  exact ⟨fun _ => .inr (.inl rfl), fun _ => .inr (.inl rfl), fun hne => absurd rfl hne, fun hne => absurd rfl hne, rfl,
    rfl, rfl⟩

theorem writesAsNamed_snapshotLoad (v : Version) (b : List Byte) (s : State) :
    WritesAsNamed .eventSnapshotLoad s (snapshotLoad v b s) := by
  cases hproblem : s.loadProblem v b with
  | some m =>
    rw [snapshotLoad_of_problem hproblem]
    exact Untouched.writesAsNamed ⟨rfl, rfl, rfl, rfl, rfl, rfl, rfl⟩
  | none =>
    rw [snapshotLoad_of_accepted hproblem, recomputeDerived_eq, armRasterCompare_eq]
    exact ⟨fun _ => .inr (.inr rfl), fun _ => .inr (.inr rfl), fun _ => .inr rfl, fun hne => absurd rfl hne, rfl, rfl,
      rfl⟩

theorem writesAsNamed_videoRamStore (space : StoreSpace) (a : Addr) (v : Byte) (s : State) :
    WritesAsNamed .eventVideoRamStore s (videoRamStore space a v s) := by
  rw [videoRamStore_frame]
  exact ⟨fun hne => absurd rfl hne, fun hne => absurd rfl hne, fun _ => .inl rfl, fun _ => rfl, rfl, rfl, rfl⟩

theorem untouched_setVbank (phi1 phi2 : Addr) (s : State) : Untouched s (setVbank phi1 phi2 s) := by
  rw [setVbank, resolvePointers_eq]; exact ⟨rfl, rfl, rfl, rfl, rfl, rfl, rfl⟩

theorem untouched_setRamBase (off : BitVec 32) (s : State) : Untouched s (setRamBase off s) := by
  rw [setRamBase, resolvePointers_eq]; exact ⟨rfl, rfl, rfl, rfl, rfl, rfl, rfl⟩

/-- Settles O60: what each operation writes, operation by operation. -/
theorem onlyTheNamedOperationsWrite : Obligations.OnlyTheNamedOperationsWrite := by
  intro i s t h
  change WritesAsNamed i s t
  cases operationShape i with
  | read hexec hafter hop =>
    rw [hexec] at h
    obtain ⟨s1, hflush, rfl⟩ := map_eq_ok.1 (answer_eq_next.1 h)
    exact (untouched_flush hflush).trans_writesAsNamed (writesAsNamed_of_read hop hafter _ _)
  | peek hexec =>
    rw [hexec] at h
    cases h
    exact Untouched.writesAsNamed ⟨rfl, rfl, rfl, rfl, rfl, rfl, rfl⟩
  | write hexec heffect hop =>
    rw [hexec] at h
    obtain ⟨s1, hflush, hwrite⟩ := bind_eq_ok.1 (answer_eq_next.1 h)
    exact (untouched_flush hflush).trans_writesAsNamed (writesAsNamed_of_write hop heffect hwrite)
  | eventAdvance => exact (untouched_advance (answer_eq_next.1 h)).writesAsNamed
  | eventHandlePendingAlarms => exact (untouched_flush (answer_eq_next.1 h)).writesAsNamed
  | eventFetchAlarm =>
    exact (untouched_of_withServed (fetchAlarm_eq_withServed (answer_eq_next.1 h))).writesAsNamed
  | eventDrawAlarm => cases h; exact (untouched_of_withServed (drawAlarm_eq_withServed s)).writesAsNamed
  | eventRasterIrqAlarm => cases h; exact (untouched_rasterIrqAlarm s).writesAsNamed
  | eventClockOverflow =>
    refine writesAsNamed_of_afterFlush (fun u t hu => ?_) h
    obtain ⟨-, rfl⟩ := clockOverflow_ok hu
    exact Untouched.writesAsNamed ⟨rfl, rfl, rfl, rfl, rfl, rfl, rfl⟩
  | eventBadlineEval =>
    rw [badlineEval_frame (answer_eq_next.1 h)]
    exact Untouched.writesAsNamed ⟨rfl, rfl, rfl, rfl, rfl, rfl, rfl⟩
  | eventFetchMatrix =>
    obtain ⟨-, -, -, rfl⟩ := fetchMatrix_ok (answer_eq_next.1 h)
    rw [fetchColumns]
    exact Untouched.writesAsNamed ⟨rfl, rfl, rfl, rfl, rfl, rfl, rfl⟩
  | eventCheckSpriteDma =>
    cases h
    rw [checkSpriteDma]
    exact Untouched.writesAsNamed ⟨rfl, rfl, rfl, rfl, rfl, rfl, rfl⟩
  | eventFetchSprite =>
    rw [fetchSprite_frame (answer_eq_next.1 h)]
    exact Untouched.writesAsNamed ⟨rfl, rfl, rfl, rfl, rfl, rfl, rfl⟩
  | eventDrawLine =>
    cases h
    rw [drawLine_frame]
    exact Untouched.writesAsNamed ⟨rfl, rfl, rfl, rfl, rfl, rfl, rfl⟩
  | eventReset => cases h; exact writesAsNamed_resetBlock s
  | eventSnapshotWrite =>
    obtain ⟨s1, hadvance, rfl⟩ := map_eq_ok.1 (answer_eq_next.1 h)
    exact ((untouched_advance hadvance).trans ⟨rfl, rfl, rfl, rfl, rfl, rfl, rfl⟩).writesAsNamed
  | eventSnapshotLoad => cases h; exact writesAsNamed_snapshotLoad _ _ s
  | eventSetVbank =>
    change execEventSetVbank s = .next t at h
    rw [execEventSetVbank] at h
    split at h
    case isTrue => exact writesAsNamed_of_afterFlush_total (fun u => (untouched_setVbank _ _ u).writesAsNamed) h
    case isFalse => cases h
  | eventSetRamBase =>
    exact writesAsNamed_of_afterFlush_total (fun u => (untouched_setRamBase _ u).writesAsNamed) h
  | eventLightpenTrigger =>
    refine writesAsNamed_of_afterFlush_total (fun u => ?_) h
    rw [lightpenTrigger_frame]
    exact Untouched.writesAsNamed ⟨rfl, rfl, rfl, rfl, rfl, rfl, rfl⟩
  | eventVideoRamStore => exact writesAsNamed_of_afterFlush_total (fun u => writesAsNamed_videoRamStore _ _ _ u) h

/-! The canonical form of the memories. -/

theorem memoriesOk_congr {s t : State} (h : MemoriesOk s) (hram : t.ram = s.ram) (hcolor : t.colorRam = s.colorRam)
    (hchargen : t.chargen = s.chargen) (hromh : t.romh = s.romh) : MemoriesOk t := by
  rw [MemoriesOk, hram, hcolor, hchargen, hromh]
  exact h

theorem memoriesOk_of_untouched {s t : State} (h : MemoriesOk s) (hst : Untouched s t) : MemoriesOk t :=
  memoriesOk_congr h hst.ram hst.colorRam hst.chargen hst.romh

theorem memoriesOk_accept {s : State} (h : MemoriesOk s) (r : Request) (rest : List Request) :
    MemoriesOk (s.accept r rest) := by
  obtain ⟨hram, hcolor, hchargen, hromh, haddr⟩ := h
  obtain ⟨hram', hchargen', hromh'⟩ := changeMemory_wf s r.memory hram hchargen hromh
  exact ⟨hram', hcolor, hchargen', hromh', haddr⟩

/-- A store to colour RAM goes to one of its 1024 addresses (20_memory.md R52). -/
theorem memoriesOk_videoRamStore {s : State} (h : MemoriesOk s) (space : StoreSpace) (a : Addr) (v : Byte) :
    MemoriesOk (videoRamStore space a v s) := by
  obtain ⟨hram, hcolor, hchargen, hromh, haddr⟩ := h
  cases space with
  | ram => exact ⟨store_wf _ _ _ hram, hcolor, hchargen, hromh, haddr⟩
  | colorRam =>
    refine ⟨hram, store_wf _ _ _ hcolor, hchargen, hromh, fun c hc => ?_⟩
    obtain rfl | hold := mem_store _ _ _ c hc
    · have hlt := (a.extractLsb' 0 10).isLt
      simpa using hlt
    · exact haddr c hold

theorem storeBody_colorRam_lt (b : List Byte) (s : State) : ∀ c ∈ (storeBody b s).colorRam, c.1 < 1024 := by
  intro c hc
  simp only [storeBody, List.mem_map, List.mem_range] at hc
  obtain ⟨k, hk, rfl⟩ := hc
  exact hk

theorem memoriesOk_recomputeDerived {s : State} (h : MemoriesOk s) : MemoriesOk (recomputeDerived s) := by
  rw [recomputeDerived_eq, armRasterCompare_eq]
  exact memoriesOk_congr h rfl rfl rfl rfl

theorem memoriesOk_snapshotLoad {s : State} (h : MemoriesOk s) (v : Version) (b : List Byte) :
    MemoriesOk (snapshotLoad v b s) := by
  cases hproblem : s.loadProblem v b with
  | some m =>
    rw [snapshotLoad_of_problem hproblem]
    exact memoriesOk_congr h rfl rfl rfl rfl
  | none =>
    obtain ⟨hram, -, hchargen, hromh, -⟩ := h
    have hstored : MemoriesOk (storeBody b s) :=
      ⟨hram, storeBody_colorRam_wf b s, hchargen, hromh, storeBody_colorRam_lt b s⟩
    rw [snapshotLoad_of_accepted hproblem]
    exact memoriesOk_recomputeDerived hstored

/-- Two operations write a memory; the others leave it as it is. -/
theorem memoriesOk_exec {i : Instr} {s t : State} (hs : MemoriesOk s) (h : exec i s = .next t) : MemoriesOk t := by
  by_cases hstore : i = .eventVideoRamStore
  case pos =>
    subst hstore
    obtain ⟨s1, hflush, hvideo⟩ := bind_eq_ok.1 (answer_eq_next.1 h)
    cases hvideo
    exact memoriesOk_videoRamStore (memoriesOk_of_untouched hs (untouched_flush hflush)) _ _ _
  by_cases hload : i = .eventSnapshotLoad
  case pos =>
    subst hload
    cases h
    exact memoriesOk_snapshotLoad hs _ _
  obtain ⟨-, -, hcolor, hram, -, hchargen, hromh⟩ := onlyTheNamedOperationsWrite i s t h
  exact memoriesOk_congr hs (not_imp_comm.1 hram hstore) (not_imp_comm.1 hcolor (not_or.2 ⟨hstore, hload⟩)) hchargen
    hromh

/-- Settles O53: the providers' changes and the operation keep the form; the answer on the bus writes no memory. -/
theorem stepKeepsMemoriesCanonical : Obligations.StepKeepsMemoriesCanonical := by
  intro s t hs h
  obtain rfl | ⟨r, rest, i, t1, -, hexec, rfl⟩ := step_cases h
  · exact hs
  · rw [present_frame]
    exact memoriesOk_congr (memoriesOk_exec (memoriesOk_accept hs r rest) hexec) rfl rfl rfl rfl

end Sys2Proof.Machine

/-! PROOFS. The order of service (41_scheduler.md R142 to R144, R151), and CLOCK_OVERFLOW (R153). -/

namespace Sys2Proof.Machine

/-! The rounds of ADVANCE. -/

section
variable {s t : State} {n : Nat}

/-- The time of the earliest of the three alarms (41_scheduler.md R142). -/
abbrev State.earliest (s : State) : Nat := min s.fetchClk.toNat (min s.drawClk.toNat s.rasterIrqClk.toNat)

theorem advanceLoop_stops (h : advanceLoop n s = .ok t) :
    t.earliest = t.cfg.clockMax.toNat ∨ t.clk.toNat < t.earliest := by
  induction n generalizing s with
  | zero => simp [advanceLoop] at h
  | succ n ih =>
    rw [advanceLoop_succ] at h
    dsimp only at h
    split at h
    case isTrue hstop => cases h; exact hstop
    case isFalse =>
      split at h
      case isTrue =>
        obtain ⟨s1, -, h⟩ := bind_eq_ok.1 h
        exact ih h
      case isFalse =>
        split at h
        · exact ih h
        · exact ih h

/-- With no alarm due ADVANCE serves nothing. -/
theorem advanceLoop_of_allQuiet (h : s.allQuiet) : advanceLoop (n + 1) s = .ok s := by
  obtain ⟨hfetch, hdraw, hraster⟩ := h
  rw [BitVec.lt_def] at hfetch hdraw
  have hstop : s.earliest = s.cfg.clockMax.toNat ∨ s.clk.toNat < s.earliest := by
    obtain hoff | hraster := hraster
    · rw [State.earliest, hoff]
      omega
    · rw [BitVec.lt_def] at hraster
      exact .inr (lt_min hfetch (lt_min hdraw hraster))
  rw [advanceLoop_succ]
  exact if_pos hstop

theorem advanceLoop_of_fetch (hdue : s.fetchClk ≤ s.clk) (harmed : s.fetchClk ≠ s.cfg.clockMax)
    (hdraw : s.fetchClk ≤ s.drawClk) (hraster : s.fetchClk ≤ s.rasterIrqClk) :
    advanceLoop (n + 1) s = (fetchAlarm s).bind (advanceLoop n) := by
  rw [BitVec.le_def] at hdue hdraw hraster
  have hearliest : s.earliest = s.fetchClk.toNat := min_eq_left (le_min hdraw hraster)
  have hgoes : ¬(s.earliest = s.cfg.clockMax.toNat ∨ s.clk.toNat < s.earliest) := by
    rw [hearliest, BitVec.toNat_inj]
    exact not_or.2 ⟨harmed, Nat.not_lt.2 hdue⟩
  rw [advanceLoop_succ]
  exact (if_neg hgoes).trans (if_pos hearliest.symm)

theorem advanceLoop_of_draw (hdue : s.drawClk ≤ s.clk) (harmed : s.drawClk ≠ s.cfg.clockMax)
    (hfetch : s.drawClk < s.fetchClk) (hraster : s.drawClk ≤ s.rasterIrqClk) :
    advanceLoop (n + 1) s = advanceLoop n (drawAlarm s) := by
  rw [BitVec.lt_def] at hfetch
  rw [BitVec.le_def] at hdue hraster
  have hearliest : s.earliest = s.drawClk.toNat := by rw [State.earliest, min_eq_left hraster, min_eq_right hfetch.le]
  have hgoes : ¬(s.earliest = s.cfg.clockMax.toNat ∨ s.clk.toNat < s.earliest) := by
    rw [hearliest, BitVec.toNat_inj]
    exact not_or.2 ⟨harmed, Nat.not_lt.2 hdue⟩
  have hnot : s.fetchClk.toNat ≠ s.earliest := by rw [hearliest]; exact hfetch.ne'
  rw [advanceLoop_succ]
  exact (if_neg hgoes).trans ((if_neg hnot).trans (if_pos hearliest.symm))

theorem advanceLoop_of_raster (hdue : s.rasterIrqClk ≤ s.clk) (harmed : s.rasterIrqClk ≠ s.cfg.clockMax)
    (hfetch : s.rasterIrqClk < s.fetchClk) (hdraw : s.rasterIrqClk < s.drawClk) :
    advanceLoop (n + 1) s = advanceLoop n (rasterIrqAlarm s) := by
  rw [BitVec.lt_def] at hfetch hdraw
  rw [BitVec.le_def] at hdue
  have hearliest : s.earliest = s.rasterIrqClk.toNat := by
    rw [State.earliest, min_eq_right hdraw.le, min_eq_right hfetch.le]
  have hgoes : ¬(s.earliest = s.cfg.clockMax.toNat ∨ s.clk.toNat < s.earliest) := by
    rw [hearliest, BitVec.toNat_inj]
    exact not_or.2 ⟨harmed, Nat.not_lt.2 hdue⟩
  have hnot : s.fetchClk.toNat ≠ s.earliest ∧ s.drawClk.toNat ≠ s.earliest := by
    rw [hearliest]
    exact ⟨hfetch.ne', hdraw.ne'⟩
  rw [advanceLoop_succ]
  exact (if_neg hgoes).trans ((if_neg hnot.1).trans (if_neg hnot.2))

/-- More fuel does not change what a loop ends in. -/
theorem advanceLoop_mono (h : advanceLoop n s = .ok t) : advanceLoop (n + 1) s = .ok t := by
  induction n generalizing s with
  | zero => simp [advanceLoop] at h
  | succ n ih =>
    rw [advanceLoop_succ] at h ⊢
    dsimp only at h ⊢
    split_ifs at h ⊢ with hstop hfetch hdraw
    · exact h
    · obtain ⟨s1, hs1, h⟩ := bind_eq_ok.1 h
      exact bind_eq_ok.2 ⟨s1, hs1, ih h⟩
    · exact ih h
    · exact ih h

theorem flushLoop_mono {wc : Nat} (h : flushLoop n wc s = .ok t) : flushLoop (n + 1) wc s = .ok t := by
  induction n generalizing s with
  | zero => simp [flushLoop] at h
  | succ n ih =>
    rw [flushLoop_succ] at h ⊢
    split_ifs at h ⊢ with hfetch hdraw
    · obtain ⟨s1, hs1, h⟩ := bind_eq_ok.1 h
      exact bind_eq_ok.2 ⟨s1, hs1, ih h⟩
    · exact ih h
    · exact h

theorem flushLoop_of_quiet {wc : Nat} (h : s.quiet wc = true) : flushLoop (n + 1) wc s = .ok s := by
  obtain ⟨hfetch, hdraw⟩ := quiet_iff.1 h
  rw [flushLoop_succ, if_neg fun hdue => hfetch hdue.1, if_neg hdraw]

theorem flushLoop_of_fetch {wc : Nat} (hdue : s.dueAt wc s.fetchClk = true) (hdraw : s.fetchClk ≤ s.drawClk) :
    flushLoop (n + 1) wc s = (fetchAlarm s).bind (flushLoop n wc) := by
  rw [flushLoop_succ, if_pos ⟨hdue, hdraw⟩]

theorem flushLoop_of_draw {wc : Nat} (hdue : s.dueAt wc s.drawClk = true) (hfetch : s.drawClk < s.fetchClk) :
    flushLoop (n + 1) wc s = flushLoop n wc (drawAlarm s) := by
  rw [flushLoop_succ, if_neg fun hboth => BitVec.not_le.2 hfetch hboth.2, if_pos hdue]

end

/-- The fuel of the loops allows for two rounds and more. -/
theorem serviceFuel_eq_add_two : ∃ n, serviceFuel = n + 1 + 1 := ⟨3 * 2 ^ 32 - 2, by decide⟩

/-! ADVANCE as a whole. -/

/-- Settles O22: the loop stops only where no alarm is due, and stops at once there. -/
theorem advanceServesEveryDueAlarm : Obligations.AdvanceServesEveryDueAlarm := by
  refine ⟨fun s t h => ?_, fun s h => ?_⟩
  · obtain hoff | hfuture := advanceLoop_stops (answer_eq_next.1 h)
    · exact .inr hoff
    · obtain ⟨hfetch, hrest⟩ := lt_min_iff.1 hfuture
      obtain ⟨hdraw, hraster⟩ := lt_min_iff.1 hrest
      exact .inl ⟨BitVec.lt_def.2 hfetch, BitVec.lt_def.2 hdraw, BitVec.lt_def.2 hraster⟩
  · obtain ⟨n, hn⟩ := serviceFuel_eq_add_two
    change answer (advanceLoop serviceFuel s) = _
    rw [hn, advanceLoop_of_allQuiet h]
    rfl

/-! The alarm that is served first. -/

/-- An operation that is a loop, on a state whose first round is the operation `one`: the rest of the loop has a round
less to go, which makes no difference. -/
theorem servesFirst_of_round {all one : Instr} {done : State → Prop} {s : State} {first : Except Fault State}
    {loop : Nat → State → Except Fault State} {n : Nat} (hone : exec one s = answer first)
    (hall : exec all s = answer (first.bind (loop n)))
    (hafter : ∀ t, first = .ok t → exec all t = answer (loop (n + 1) t))
    (hdone : ∀ t, done t → loop n t = .ok t) (hmono : ∀ t u, loop n t = .ok u → loop (n + 1) t = .ok u) :
    ServesFirst all one done s := by
  rw [ServesFirst, hone, hall]
  refine ⟨fun t hfirst ht => ?_, fun t u hfirst hu => ?_, fun e hfirst => ?_⟩
  · rw [answer_eq_next.1 hfirst]
    exact congrArg answer (hdone t ht)
  · rw [answer_eq_next.1 hfirst] at hu
    rw [hafter t (answer_eq_next.1 hfirst), hmono t u (answer_eq_next.1 hu)]
    rfl
  · cases first with
    | ok t => cases hfirst
    | error e' => exact hfirst

/-- The alarm `one` is served in the first round of ADVANCE. -/
theorem advance_servesFirst {one : Instr} {s : State} {first : Except Fault State} (hone : exec one s = answer first)
    (hround : ∀ n, advanceLoop (n + 1) s = first.bind (advanceLoop n)) :
    ServesFirst .eventAdvance one State.allQuiet s := by
  obtain ⟨n, hn⟩ := serviceFuel_eq_add_two
  have hall : ∀ t, exec .eventAdvance t = answer (advanceLoop (n + 1 + 1) t) := fun t => by rw [← hn]; rfl
  refine servesFirst_of_round (loop := advanceLoop) (n := n + 1) hone ?_ (fun t _ => hall t)
    (fun t => advanceLoop_of_allQuiet) (fun t u => advanceLoop_mono)
  rw [hall, hround]

/-- The alarm `one` is served in the first round of the flush. -/
theorem flush_servesFirst {one : Instr} {s : State} {first : Except Fault State} (hone : exec one s = answer first)
    (hround : ∀ n, flushLoop (n + 1) s.operands.writeCycles.toNat s =
      first.bind (flushLoop n s.operands.writeCycles.toNat))
    (hoperands : ∀ t, first = .ok t → t.operands = s.operands) :
    ServesFirst .eventHandlePendingAlarms one (fun t => t.quiet s.operands.writeCycles.toNat = true) s := by
  obtain ⟨n, hn⟩ := serviceFuel_eq_add_two
  have hall : ∀ t, exec .eventHandlePendingAlarms t =
      answer (flushLoop (n + 1 + 1) t.operands.writeCycles.toNat t) := fun t => by rw [← hn]; rfl
  refine servesFirst_of_round (loop := fun n => flushLoop n s.operands.writeCycles.toNat) (n := n + 1) hone ?_
    (fun t ht => ?_) (fun t => flushLoop_of_quiet) (fun t u => flushLoop_mono)
  · rw [hall, hround]
  · rw [hall, hoperands t ht]

theorem fetchAlarm_operands {s t : State} (h : fetchAlarm s = .ok t) : t.operands = s.operands := by
  rw [fetchAlarm_frame h]

/-- An armed raster alarm raises its interrupt and is rearmed one frame later (41_scheduler.md R151). -/
theorem rasterIrqAlarm_of_armed {s : State} (h : s.rasterIrqClk ≠ s.cfg.clockMax) : rasterIrqAlarm s = { s with
    irqStatus := s.irqStatus ||| 0x01#8
    irqLine := irqRequest (s.irqStatus ||| 0x01#8) (s.reg 0x1A)
    rasterIrqClk := s.rasterIrqClk + BitVec.ofNat 32 s.cfg.frame } := by
  rw [rasterIrqAlarm, if_neg h]
  rfl

/-- Settles O31: the two branches of the alarm. -/
theorem rasterAlarmRaisesInterrupt : Obligations.RasterAlarmRaisesInterrupt := by
  refine ⟨fun s harmed => ?_, fun s hoff => ?_⟩
  · exact congrArg (fun t => answer (.ok t)) (rasterIrqAlarm_of_armed harmed)
  · exact congrArg (fun t => answer (.ok t)) (if_pos hoff)

/-- With the fetch alarm in the future, the draw alarm is over for this flush when its next line is not due. -/
theorem quiet_drawAlarm {s : State} {wc : Nat} (hfetch : s.dueAt wc s.fetchClk = false)
    (hlater : s.dueAt wc (s.drawClk + BitVec.ofNat 32 s.cfg.cpl) = false) : (drawAlarm s).quiet wc = true := by
  have hclk : (drawAlarm s).drawClk = s.drawClk + BitVec.ofNat 32 s.cfg.cpl := by
    simp [drawAlarm, beginNextLine_eq, later]
  rw [State.quiet, hclk, drawAlarm_fetchClk, State.dueAt, State.dueAt, drawAlarm_clk]
  exact Bool.and_eq_true_iff.2 ⟨congrArg _ hfetch, congrArg _ hlater⟩

/-- Settles O23: the first round of a loop serves the alarm that is due first (`servesFirst_of_round`). -/
theorem oneDueAlarmIsServedOnce : Obligations.OneDueAlarmIsServedOnce := by
  have hraster : ∀ s : State, s.rasterIrqClk ≤ s.clk → s.rasterIrqClk ≠ s.cfg.clockMax → s.rasterIrqClk < s.fetchClk →
      s.rasterIrqClk < s.drawClk → ServesFirst .eventAdvance .eventRasterIrqAlarm State.allQuiet s :=
    fun s hdue harmed hfetch hdraw => advance_servesFirst (first := .ok (rasterIrqAlarm s)) rfl
      fun n => advanceLoop_of_raster hdue harmed hfetch hdraw
  have hdraw : ∀ s : State, s.dueAt s.operands.writeCycles.toNat s.drawClk = true → s.drawClk < s.fetchClk →
      ServesFirst .eventHandlePendingAlarms .eventDrawAlarm
        (fun t => t.quiet s.operands.writeCycles.toNat = true) s :=
    fun s hdue hfetch => flush_servesFirst (first := .ok (drawAlarm s)) rfl (fun n => flushLoop_of_draw hdue hfetch)
      fun t ht => by cases ht; exact drawAlarm_operands s
  refine ⟨fun s hdue harmed hle hraster => ?_, fun s hdue harmed hfetch hraster => ?_, hraster, fun s hdue hle => ?_,
    hdraw, fun s hfetch hdraw hdue harmed hlater => ?_, fun s hdue hfetch hlater => ?_⟩
  · exact advance_servesFirst (first := fetchAlarm s) rfl fun n => advanceLoop_of_fetch hdue harmed hle hraster
  · exact advance_servesFirst (first := .ok (drawAlarm s)) rfl fun n => advanceLoop_of_draw hdue harmed hfetch hraster
  · exact flush_servesFirst (first := fetchAlarm s) rfl (fun n => flushLoop_of_fetch hdue hle)
      fun t => fetchAlarm_operands
  · obtain ⟨hover, -, -⟩ := hraster s hdue harmed (Nat.lt_of_le_of_lt hdue hfetch) (Nat.lt_of_le_of_lt hdue hdraw)
    exact hover _ (rasterAlarmRaisesInterrupt.1 s harmed) ⟨hfetch, hdraw, .inr hlater⟩
  · have hfirst : s.drawClk < s.fetchClk :=
      BitVec.not_le.1 fun hle => by rw [dueAt_of_le hle hdue] at hfetch; cases hfetch
    obtain ⟨hover, -, -⟩ := hdraw s hdue hfirst
    exact ⟨drawAlarm s, rfl, hover _ rfl (quiet_drawAlarm hfetch hlater), drawAlarm_rasterIrqClk s⟩

end Sys2Proof.Machine

/-! PROOFS. CLOCK_OVERFLOW (41_scheduler.md R153), the memory pointers (40_register_file.md R98, R129) and the banking
(20_memory.md R47, R48). -/

namespace Sys2Proof.Machine

/-! An operation after its flush. -/

theorem flushedWhen_of_flush {p : State → Prop} {i : Instr} {f : State → Host.Outcome State Fault Refusal}
    (h : ∀ s s1, flush 0 s = .ok s1 → p s1 → exec i s = f s1) : FlushedWhen p i f :=
  ⟨h, fun s hquiet hp => h s s (flush_of_quiet hquiet) hp⟩

theorem afterFlush_of_fault {f : State → Except Fault State} {s : State} {e : Fault} (h : flush 0 s = .error e) :
    afterFlush f s = .fault e := by
  rw [afterFlush, h]; rfl

theorem flush_operands {wc : Nat} {s t : State} (h : flush wc s = .ok t) : t.operands = s.operands := by
  rw [flush_eq_withServed h]; rfl

/-! CLOCK_OVERFLOW. -/

/-- The fields that CLOCK_OVERFLOW may not take below zero (log 21). -/
def OverflowNegative (s : State) : Prop :=
  s.clkOrigin < s.operands.sub ∨ (s.fetchClk ≠ s.cfg.clockMax ∧ s.fetchClk < s.operands.sub) ∨
    (s.drawClk ≠ s.cfg.clockMax ∧ s.drawClk < s.operands.sub) ∨
    (s.rasterIrqClk ≠ s.cfg.clockMax ∧ s.rasterIrqClk < s.operands.sub) ∨
    (s.fetchIdx = .fetchSprite ∧ s.spriteFetchBase < s.operands.sub)

theorem overflowBelowZero_iff (s : State) : s.overflowBelowZero s.operands.sub = true ↔ OverflowNegative s := by
  simp only [State.overflowBelowZero, alarmBelow, OverflowNegative, Bool.or_eq_true, Bool.and_eq_true, bne_iff_ne,
    beq_iff_eq, BitVec.ult_iff_lt, or_assoc]

/-- The state with every clock moved back. -/
def State.movedBack (s : State) : State :=
  { s with
    clk := s.clk - s.operands.sub
    clkOrigin := s.clkOrigin - s.operands.sub
    fetchClk := if s.fetchClk = s.cfg.clockMax then s.cfg.clockMax else s.fetchClk - s.operands.sub
    drawClk := if s.drawClk = s.cfg.clockMax then s.cfg.clockMax else s.drawClk - s.operands.sub
    rasterIrqClk := if s.rasterIrqClk = s.cfg.clockMax then s.cfg.clockMax else s.rasterIrqClk - s.operands.sub
    spriteFetchBase := s.spriteFetchBase - s.operands.sub }

theorem moveBack_eq (disarmed sub t : Clock) : moveBack disarmed sub t =
    if t = disarmed then disarmed else t - sub := by
  rw [moveBack]
  split
  case isTrue h => exact h
  case isFalse => rfl

theorem clockOverflow_of_negative {s : State} (h : OverflowNegative s) :
    clockOverflow s.operands.sub s = .error (.assertFail .clockOverflowBelowZero) := by
  rw [clockOverflow, if_pos ((overflowBelowZero_iff s).2 h)]

theorem clockOverflow_of_not_negative {s : State} (h : ¬OverflowNegative s) :
    clockOverflow s.operands.sub s = .ok s.movedBack := by
  rw [clockOverflow, if_neg (mt (overflowBelowZero_iff s).1 h)]
  simp only [moveBack_eq]
  rfl

/-- The raster position is that of the time since the origin, which stays (41_scheduler.md R141). -/
theorem movedBack_sub_origin {s : State} (h : ¬OverflowNegative s) (horigin : s.clkOrigin ≤ s.clk) :
    (s.movedBack.clk.toNat : Int) - s.movedBack.clkOrigin.toNat = s.clk.toNat - s.clkOrigin.toNat := by
  have hsub : s.operands.sub ≤ s.clkOrigin := BitVec.not_lt.1 fun hlt => h (.inl hlt)
  show ((s.clk - s.operands.sub).toNat : Int) - (s.clkOrigin - s.operands.sub).toNat = _
  rw [BitVec.toNat_sub_of_le hsub, BitVec.toNat_sub_of_le (Nat.le_trans hsub horigin)]
  rw [BitVec.le_def] at hsub horigin
  omega

/-- Settles O32: `overflowBelowZero_iff` tells the two outcomes apart. -/
theorem clockOverflowMovesEveryClock : Obligations.ClockOverflowMovesEveryClock := by
  have hexec : ∀ s s1, flush 0 s = .ok s1 →
      exec .eventClockOverflow s = answer (clockOverflow s1.operands.sub s1) := fun s s1 hflush => by
    rw [flush_operands hflush]
    exact afterFlush_of_ok hflush
  refine ⟨flushedWhen_of_flush fun s s1 hflush hneg => ?_, flushedWhen_of_flush fun s s1 hflush hneg => ?_,
    fun s e hflush => afterFlush_of_fault hflush, fun s hneg horigin => ?_⟩
  · rw [hexec s s1 hflush, clockOverflow_of_not_negative hneg]
    rfl
  · rw [hexec s s1 hflush, clockOverflow_of_negative hneg]
    rfl
  · have hsince := movedBack_sub_origin hneg horigin
    constructor
    · show s.movedBack.cycleNow = s.cycleNow
      rw [State.cycleNow, State.rasterCycle, hsince]
      rfl
    · show s.movedBack.lineNow = s.lineNow
      rw [State.lineNow, State.rasterY, hsince]
      rfl

/-! The memory pointers. -/

theorem resolvePointers_eq_pointerChanges (s : State) : resolvePointers s =
    { s with changes := s.changes ++ s.pointerChanges s.screenAddr s.charAddr s.bitmapAddr } :=
  resolvePointers_eq s

/-- Settles O15: the pointers are those of the stored byte. -/
theorem writeMemoryPointers : Obligations.WriteMemoryPointers := by
  intro wc v
  refine flushedResult_of_writeWith (effect := writeVmcsb v) rfl fun s => ?_
  have hreg : (s.setReg 0x18 v).reg 0x18 = v := (reg_setReg s 0x18 0x18 v).trans (if_pos rfl)
  rw [writeVmcsb, resolvePointers_eq]
  simp only [State.screenAddr, State.charAddr, State.bitmapAddr, hreg]
  rfl

/-- SET_RAM_BASE after its flush (20_memory.md R48): the pointers do not depend on the RAM base. -/
theorem exec_eventSetRamBase : FlushedResult 0 .eventSetRamBase fun s => { s with
    ramBaseOffset := s.operands.ramBase
    changes := s.changes ++ s.pointerChanges s.screenAddr s.charAddr s.bitmapAddr } := by
  have hflushed : ∀ s s1, flush 0 s = .ok s1 →
      exec .eventSetRamBase s = .next (setRamBase s1.operands.ramBase s1) := fun s s1 hflush => by
    rw [flush_operands hflush]
    exact afterFlush_of_ok hflush
  have hresult : ∀ s s1, flush 0 s = .ok s1 → exec .eventSetRamBase s = .next { s1 with
      ramBaseOffset := s1.operands.ramBase
      changes := s1.changes ++ s1.pointerChanges s1.screenAddr s1.charAddr s1.bitmapAddr } := fun s s1 hflush => by
    rw [hflushed s s1 hflush, setRamBase, resolvePointers_eq_pointerChanges]
    rfl
  exact ⟨hresult, fun s e hflush => afterFlush_of_fault hflush, fun s hquiet => hresult s s (flush_of_quiet hquiet)⟩

/-- Settles O50: a legal pair of banks flushes and resolves the pointers, an illegal one is refused at once. -/
theorem bankingTakesEffectOrIsRefused : Obligations.BankingTakesEffectOrIsRefused := by
  have hlegal : ∀ b : Addr, bankWellFormed b = true ↔ b &&& 0x3FFF#16 = 0 := fun b => decide_eq_true_iff
  have hexec : ∀ s : State, s.operands.vbankPhi1 &&& 0x3FFF#16 = 0 → s.operands.vbankPhi2 &&& 0x3FFF#16 = 0 →
      exec .eventSetVbank s =
        afterFlush (fun s1 => .ok (setVbank s.operands.vbankPhi1 s.operands.vbankPhi2 s1)) s := fun s h1 h2 =>
    if_pos (Bool.and_eq_true_iff.2 ⟨(hlegal _).2 h1, (hlegal _).2 h2⟩)
  refine ⟨flushedWhen_of_flush fun s s1 hflush hbanks => ?_, fun s hbad => ?_, fun s e h1 h2 hflush => ?_, ?_⟩
  · obtain ⟨h1, h2⟩ := hbanks
    have hoperands := flush_operands hflush
    rw [hoperands] at h1 h2
    rw [hexec s h1 h2, afterFlush_of_ok hflush, ← hoperands, setVbank, resolvePointers_eq_pointerChanges]
    rfl
  · refine if_neg fun hboth => ?_
    obtain ⟨h1, h2⟩ := Bool.and_eq_true_iff.1 hboth
    obtain h | h := hbad
    · exact h ((hlegal _).1 h1)
    · exact h ((hlegal _).1 h2)
  · rw [hexec s h1 h2, afterFlush_of_fault hflush]
  · exact exec_eventSetRamBase

end Sys2Proof.Machine

/-! PROOFS. The statements about one handler: the step (30_encoding.md R64, R65), READ and WRITE (40_register_file.md
R82 to R110), the queue (R130) and RESET (70_reset_and_hazards.md R285). -/

namespace Sys2Proof.Machine

/-! The step. -/

theorem step_of_decode {s : State} {r : Request} {rest : List Request} {i : Instr} (hinbox : s.inbox = r :: rest)
    (hdecode : decode (s.busWord r.word) = .ok i) :
    step s = presented (splitWord (s.busWord r.word)) (exec i (s.accept r rest)) := by
  rw [step, hinbox]
  dsimp only
  rw [hdecode]
  rfl

theorem withLastRead_same {s : State} {b : Byte} (h : s.lastRead = b) : { s with lastRead := b } = s := by
  subst h; rfl

/-- With the places of R65 itself the bus shows the read data as it is. -/
theorem present_default {s : State} (hb : s.cfg.bitmap = Config.defaultBitmap) {f : WordFields}
    (hread : f.op = 0 → s.lastRead = s.readData) : s.present f = s := by
  simp only [State.present, busByte_default hb, registerByte_default hb]
  split
  case isTrue hop => exact withLastRead_same (hread hop)
  case isFalse =>
    split
    · rfl
    · rfl

/-- Settles O5: `step_of_decode`, and the default maps change neither the word nor the read data. -/
theorem stepRunsTheDecodedInstruction : Obligations.StepRunsTheDecodedInstruction := by
  refine ⟨fun s r rest i hinbox hdecode => step_of_decode hinbox hdecode, fun s hinbox => ?_,
    fun s w hregmap hbitmap => ⟨busWord_default hregmap hbitmap w, fun f hread => ?_⟩, fun _ _ => rfl,
    splitWord_busWord⟩
  · rw [step, hinbox]
  · exact congrArg Host.Outcome.next (present_default hbitmap hread)

/-! READ. -/

/-- Bit 8 of the line, as READ 11 shows it (40_register_file.md R89). -/
theorem testBit_eight_iff (n : Nat) : n.testBit 8 = true ↔ 256 ≤ n % 512 := by
  rw [Nat.testBit_eq_decide_div_mod_eq, decide_eq_true_iff]
  omega

/-- Settles O7: each value is that of its handler, bit 8 of the line read off the number. -/
theorem readReturnsReconstructedValue : Obligations.ReadReturnsReconstructedValue := by
  have hcr1 : ∀ s : State, s.valueCr1 =
      (s.reg 0x11 &&& 0x7F#8) ||| (if 256 ≤ s.lineNow % 512 then 0x80#8 else 0#8) ||| s.cfg.always1At 0x11 := by
    intro s
    simp only [State.valueCr1, testBit_eight_iff]
  refine ⟨?_, flushedResult_of_readWith (value := State.valueRaster) (after := id) rfl,
    flushedResult_of_readWith (value := State.valueLpx) (after := id) rfl,
    flushedResult_of_readWith (value := State.valueLpy) (after := id) rfl,
    flushedResult_of_readWith (value := State.valueIrq) (after := id) rfl⟩
  rw [← funext hcr1]
  exact flushedResult_of_readWith (value := State.valueCr1) (after := id) rfl

/-- Settles O8: the second READ finds the accumulator that the first has cleared. -/
theorem readClearsCollisions : Obligations.ReadClearsCollisions := by
  have hresult := flushedResult_of_readWith (i := .read1E) (value := State.valueSpriteSprite)
    (after := clearSpriteSprite) rfl
  refine ⟨hresult,
    flushedResult_of_readWith (value := State.valueSpriteBackground) (after := clearSpriteBackground) rfl,
    fun s hquiet hmask => ?_⟩
  obtain ⟨-, -, hread⟩ := hresult
  refine ⟨_, _, hread s hquiet, hread _ hquiet, ?_, ?_⟩
  · show s.spriteSpriteCollisions ||| s.cfg.always1At 0x1E = _
    rw [hmask]
    exact BitVec.or_zero
  · show 0#8 ||| s.cfg.always1At 0x1E = 0
    rw [hmask]
    rfl

/-! WRITE. -/

/-- Settles O10, from the one handler that these addresses share. -/
theorem writeStoresTheByte : Obligations.WriteStoresTheByte :=
  fun wc v p hp => flushedResult_of_writeWith (exec_of_mem_storedWrites wc v p hp) fun _ => rfl

/-! The queue. -/

theorem addChange_renderAt (s : State) (v : TargetValue) (x : Int) : (addChange v s).renderAt x =
    if s.triggerX s.clk ≤ x then (s.renderAt x).assign v else s.renderAt x := by
  simp only [addChange, State.renderAt, List.foldl_append, List.foldl_cons, List.foldl_nil]

/-- Settles O42: a queued change is applied last, from its X on. -/
theorem deferredChangeTakesEffectAtItsX : Obligations.DeferredChangeTakesEffectAtItsX :=
  fun s v x => ⟨addChange_renderAt s v x, renderEnd_append s [⟨s.triggerX s.clk, v⟩], rfl⟩

/-! RESET. -/

/-- Settles O46: by `resetBlock_eq` a RESET gives every field that R36 names its value, which it has already. -/
theorem resetOfTheResetState : Obligations.ResetOfTheResetState := by
  show Host.Outcome.next (resetBlock State.reset) = _
  rw [resetBlock_eq]
  rfl

/-- Settles O58: a fixed state; the memories by `reset_memories_wf`. -/
theorem resetMeetsTheInvariants : Obligations.ResetMeetsTheInvariants := by
  obtain ⟨hram, hcolor, hchargen, hromh⟩ := reset_memories_wf
  refine ⟨⟨hram, hcolor, hchargen, hromh, ?addresses⟩, ?ranges, ?index, ?derived, ?targets, ?lines⟩
  case addresses => exact List.forall_mem_nil _
  case index => intro hsprite; cases hsprite
  case lines => exact List.forall_mem_nil _
  case ranges | derived | targets => decide +kernel

end Sys2Proof.Machine

/-! PROOFS. MemRead and the memories (20_memory.md R41, R45, R46; log 10). -/

namespace Sys2Proof.Machine

theorem inChargenWindow_iff (c : Config) (a : Addr) :
    inChargenWindow c a = true ↔ ∃ w ∈ c.chargenWindows, w.1 ≤ a ∧ a ≤ w.2 := by
  simp only [inChargenWindow, List.any_eq_true, Bool.and_eq_true, decide_eq_true_eq]

/-- The cartridge ROM's window, address bits 13:12 both set (20_memory.md R46). -/
theorem extractLsb'_twelve_two_iff (a : Addr) : a.extractLsb' 12 2 = 3#2 ↔ a.toNat / 4096 % 4 = 3 := by
  rw [← BitVec.toNat_inj, BitVec.extractLsb'_toNat, Nat.shiftRight_eq_div_pow]
  rfl

theorem toNat_extractLsb'_zero_twelve (a : Addr) : (a.extractLsb' 0 12).toNat = a.toNat % 4096 := by
  rw [BitVec.extractLsb'_toNat, Nat.shiftRight_zero]

theorem ramAddress_eq (s : State) (a : Addr) : s.ramAddress a = (s.ramBaseOffset.toNat + a.toNat) % 2 ^ 32 := by
  rw [State.ramAddress, BitVec.toNat_add, BitVec.toNat_setWidth_of_le (by decide)]

/-- MemRead by the priority of 20_memory.md R41. -/
theorem phi1Read_eq (s : State) (a : Addr) : s.phi1Read a =
    if s.ultimax = true ∧ a.toNat / 4096 % 4 = 3 then s.romhByte (a.toNat % 4096)
    else if ∃ w ∈ s.cfg.chargenWindows, w.1 ≤ a ∧ a ≤ w.2 then s.chargenByte (a.toNat % 4096)
    else s.ramByte ((s.ramBaseOffset.toNat + a.toNat) % 2 ^ 32) := by
  simp only [State.phi1Read, Bool.and_eq_true, beq_iff_eq, extractLsb'_twelve_two_iff, inChargenWindow_iff,
    toNat_extractLsb'_zero_twelve, ramAddress_eq]

theorem ramByte_of_lookup {s : State} {a : Nat} {v : Byte} (h : Memory.lookup s.ram a = some v) : s.ramByte a = v := by
  rw [State.ramByte, h]; rfl

theorem chargenByte_of_lookup {s : State} {a : Nat} {v : Byte} (h : Memory.lookup s.chargen a = some v) :
    s.chargenByte a = v := by
  rw [State.chargenByte, h]; rfl

theorem romhByte_of_lookup {s : State} {a : Nat} {v : Byte} (h : Memory.lookup s.romh a = some v) :
    s.romhByte a = v := by
  rw [State.romhByte, h]; rfl

/-- Settles O52: each store is `Memory.store`, which `lookup_store` describes, and MemRead is `phi1Read_eq`. -/
theorem memoryReadsWhatWasStored : Obligations.MemoryReadsWhatWasStored :=
  ⟨lookup_store, phi1Read_eq, fun _ _ => rfl,
    fun _ _ _ => ⟨ramByte_of_lookup, chargenByte_of_lookup, romhByte_of_lookup⟩,
    fun s a k v b =>
      ⟨lookup_store s.ram a.toNat b v, lookup_store s.chargen k.toNat b v, lookup_store s.romh k.toNat b v⟩⟩

end Sys2Proof.Machine

/-! PROOFS. The body of a snapshot (45_snapshot.md R242, R243): its fields in order, each at its offset. -/

namespace Sys2Proof.Machine

/-! Offsets in a list of segments. -/

theorem getElem?_flatten_at {α : Type} {l : List (List α)} {j k : Nat} {seg : List α} (hseg : l[j]? = some seg)
    (hk : k < seg.length) : l.flatten[((l.map List.length).take j).sum + k]? = seg[k]? := by
  induction l generalizing j with
  | nil => cases hseg
  | cons first rest ih =>
    cases j with
    | zero =>
      obtain rfl : first = seg := by simpa using hseg
      simp [List.getElem?_append_left hk]
    | succ j =>
      have hrest := ih (j := j) (by simpa using hseg)
      simp only [List.map_cons, List.take_succ_cons, List.sum_cons, List.flatten_cons, Nat.add_assoc]
      rw [List.getElem?_append_right (Nat.le_add_right _ _), Nat.add_sub_cancel_left]
      exact hrest

/-- The fields of the body, in the order of 45_snapshot.md R242. -/
def State.bodySegments (s : State) : List (List Byte) :=
  [[byteOfBool s.allowBadLines, byteOfBool s.badLine, byteOfBool s.blank],
    s.cbuf.toList,
    (List.range 1024).map fun k => s.colorByte (BitVec.ofNat 10 k),
    [byteOfBool s.idleState, byteOfBool s.lightPen.triggered, s.lightPen.x, s.lightPen.y],
    s.vbuf.toList,
    [s.newSpriteDmaMask],
    bytesOf32 s.ramBaseOffset,
    [BitVec.ofNat 8 s.cycleNow],
    bytesOf16 (BitVec.ofNat 16 s.lineNow),
    s.regBytes,
    [s.spriteBackgroundCollisions, s.spriteDmaMask, s.spriteSpriteCollisions],
    bytesOf16 s.vbankPhi1,
    bytesOf16 (s.memCounter.setWidth 16),
    [s.memCounterInc],
    bytesOf16 (s.memptr.setWidth 16),
    [s.irqStatus],
    (s.sprites.toList.map spriteBytes).flatten,
    bytesOf32 (s.fetchClk - s.clk),
    [s.fetchIdx.code]]

theorem body_eq_flatten (s : State) : s.body = s.bodySegments.flatten := by
  simp only [State.body, State.bodyHead, State.bodyTail, State.bodySegments, List.flatten_cons, List.flatten_nil,
    List.append_assoc, List.append_nil]

/-- The sizes of the fields (45_snapshot.md R242). -/
def segmentLengths : List Nat := [3, 40, 1024, 4, 40, 1, 4, 1, 2, 64, 3, 2, 2, 1, 2, 1, 24, 4, 1]

theorem length_spriteBytes (sp : Sprite) : (spriteBytes sp).length = 3 := rfl

theorem bodySegments_lengths (s : State) : s.bodySegments.map List.length = segmentLengths := by
  have hsprites : ((s.sprites.toList.map spriteBytes).flatten).length = 24 := by
    simp [List.length_flatten, Function.comp_def, length_spriteBytes]
  simp [State.bodySegments, segmentLengths, hsprites, State.regBytes, bytesOf16, bytesOf32]

theorem length_body (s : State) : s.body.length = 1223 := by
  rw [body_eq_flatten, List.length_flatten, bodySegments_lengths]
  rfl

/-- Byte `k` of field `j` stands at the offset that the sizes of the fields before it give. -/
theorem body_byte {s : State} (j k : Nat) {n : Nat} {seg : List Byte} {v : Byte} (hseg : s.bodySegments[j]? = some seg)
    (hbyte : seg[k]? = some v) (hn : (segmentLengths.take j).sum + k = n) : s.body[n]? = some v := by
  obtain ⟨hk, -⟩ := List.getElem?_eq_some_iff.1 hbyte
  rw [← hn, body_eq_flatten, ← bodySegments_lengths s, getElem?_flatten_at hseg hk]
  exact hbyte

/-! The fields. -/

theorem bytesOf32_at (v : BitVec 32) (k : Fin 4) : (bytesOf32 v)[k.val]? = some (v.extractLsb' (8 * k.val) 8) := by
  fin_cases k <;> rfl

/-- Byte `k` of a `u16` field that holds a number (45_snapshot.md R243). -/
theorem bytesOf16_at (v : BitVec 16) (k : Fin 2) : (bytesOf16 v)[k.val]? = some (v.extractLsb' (8 * k.val) 8) := by
  fin_cases k <;> rfl

theorem extractLsb'_eq_ofNat (v : BitVec 16) (n : Nat) (k : Fin 2) (h : v.toNat = n % 65536) :
    v.extractLsb' (8 * k.val) 8 = BitVec.ofNat 8 (n / 256 ^ k.val) := by
  apply BitVec.eq_of_toNat_eq
  rw [BitVec.extractLsb'_toNat, Nat.shiftRight_eq_div_pow, h, BitVec.toNat_ofNat]
  fin_cases k
  · simp
  · simp
    omega

theorem spriteBytes_at (s : State) (i : SpriteNo) {j : Nat} (hj : j < 3) :
    ((s.sprites.toList.map spriteBytes).flatten)[3 * i.val + j]? = (spriteBytes s.sprites[i])[j]? := by
  have hseg : (s.sprites.toList.map spriteBytes)[i.val]? = some (spriteBytes s.sprites[i]) := by
    simp
  have hat := getElem?_flatten_at hseg (k := j) hj
  have hsum : (((s.sprites.toList.map spriteBytes).map List.length).take i.val).sum = 3 * i.val := by
    have hlengths : (s.sprites.toList.map spriteBytes).map List.length = List.replicate 8 3 := by
      simp [Function.comp_def, length_spriteBytes]
    rw [hlengths, List.take_replicate, List.sum_replicate]
    simp
    omega
  rwa [hsum] at hat

theorem body_cbuf (s : State) (c : Fin 40) : s.body[3 + c.val]? = some s.cbuf[c] :=
  body_byte 1 c.val rfl (by simp) rfl

theorem body_vbuf (s : State) (c : Fin 40) : s.body[1071 + c.val]? = some s.vbuf[c] :=
  body_byte 4 c.val rfl (by simp) rfl

theorem body_colorRam (s : State) (k : Fin 1024) : s.body[43 + k.val]? = some (s.colorByte (BitVec.ofNat 10 k.val)) :=
  body_byte 2 k.val rfl (by simp) rfl

theorem body_register (s : State) (a : RegAddr) : s.body[1119 + a.toNat]? = some (s.storedAt a) :=
  body_byte 9 a.toNat rfl (by simp [State.regBytes, a.isLt]) rfl

theorem body_sprite (s : State) (i : SpriteNo) {j n : Nat} {v : Byte} (hj : (spriteBytes s.sprites[i])[j]? = some v)
    (hn : 1194 + 3 * i.val + j = n) : s.body[n]? = some v := by
  obtain ⟨hlt, -⟩ := List.getElem?_eq_some_iff.1 hj
  exact body_byte 16 (3 * i.val + j) rfl ((spriteBytes_at s i hlt).trans hj) ((Nat.add_assoc ..).symm.trans hn)

/-- A `u16` field that holds a number, a byte at a time (45_snapshot.md R243). -/
theorem bytesOf16_ofNat_at {v : BitVec 16} {n : Nat} (h : v.toNat = n % 65536) (k : Fin 2) :
    (bytesOf16 v)[k.val]? = some (BitVec.ofNat 8 (n / 256 ^ k.val)) := by
  rw [bytesOf16_at, extractLsb'_eq_ofNat v n k h]

theorem toNat_setWidth_sixteen (v : BitVec 10) : (v.setWidth 16).toNat = v.toNat % 65536 :=
  BitVec.toNat_setWidth ..

theorem body_lineNow (s : State) (k : Fin 2) :
    s.body[1117 + k.val]? = some (BitVec.ofNat 8 (s.lineNow / 256 ^ k.val)) :=
  body_byte 8 k.val rfl (bytesOf16_ofNat_at (BitVec.toNat_ofNat ..) k) rfl

theorem body_memCounter (s : State) (k : Fin 2) :
    s.body[1188 + k.val]? = some (BitVec.ofNat 8 (s.memCounter.toNat / 256 ^ k.val)) :=
  body_byte 12 k.val rfl (bytesOf16_ofNat_at (toNat_setWidth_sixteen _) k) rfl

theorem body_memptr (s : State) (k : Fin 2) :
    s.body[1191 + k.val]? = some (BitVec.ofNat 8 (s.memptr.toNat / 256 ^ k.val)) :=
  body_byte 14 k.val rfl (bytesOf16_ofNat_at (toNat_setWidth_sixteen _) k) rfl

theorem body_fetchIdx (s : State) : s.body[1222]? = some s.fetchIdx.code := body_byte 18 0 rfl rfl rfl

/-! SNAPSHOT_WRITE. -/

theorem exec_eventSnapshotWrite (s : State) : exec .eventSnapshotWrite s = answer ((advance s).map fun s1 =>
    { s1 with snapshotOut := some { version := s1.cfg.snapshotVersion, body := s1.body } }) := rfl

/-- Settles O47: ADVANCE and then the body, each field of it found by `body_byte`. -/
theorem snapshotWriteGivesTheBody : Obligations.SnapshotWriteGivesTheBody := by
  have hwritten : ∀ s s1 : State, exec .eventAdvance s = .next s1 → exec .eventSnapshotWrite s =
      .next { s1 with snapshotOut := some { version := s1.cfg.snapshotVersion, body := s1.body } } := fun s s1 h => by
    rw [exec_eventSnapshotWrite, answer_eq_next.1 h]
    rfl
  refine ⟨hwritten, fun s e h => ?_, fun s h => hwritten s s (advanceServesEveryDueAlarm.2 s h), fun s => ?_⟩
  · rw [exec_eventSnapshotWrite, answer_eq_fault.1 h]
    rfl
  refine ⟨length_body s, body_byte 0 0 rfl rfl rfl, body_byte 0 1 rfl rfl rfl, body_byte 0 2 rfl rfl rfl,
    fun c => ⟨body_cbuf s c, body_vbuf s c⟩, body_colorRam s, body_byte 3 0 rfl rfl rfl, body_byte 3 1 rfl rfl rfl,
    body_byte 3 2 rfl rfl rfl, body_byte 3 3 rfl rfl rfl, body_byte 5 0 rfl rfl rfl,
    fun k => body_byte 6 k.val rfl (bytesOf32_at _ k) rfl, body_byte 7 0 rfl rfl rfl, body_lineNow s, body_register s,
    body_byte 10 0 rfl rfl rfl, body_byte 10 1 rfl rfl rfl, body_byte 10 2 rfl rfl rfl,
    fun k => ⟨body_byte 11 k.val rfl (bytesOf16_at _ k) rfl, body_memCounter s k, body_memptr s k⟩,
    body_byte 13 0 rfl rfl rfl, body_byte 15 0 rfl rfl rfl,
    fun i => ⟨body_sprite s i (j := 0) rfl rfl, body_sprite s i (j := 1) rfl (by omega),
      body_sprite s i (j := 2) rfl (by omega)⟩,
    fun k => body_byte 17 k.val rfl (bytesOf32_at _ k) rfl, ?_⟩
  rw [body_fetchIdx]
  cases s.fetchIdx <;> rfl

end Sys2Proof.Machine

/-! PROOFS. The round trip of a snapshot (45_snapshot.md R246 to R252): what the load of a body gives, and what the
body of another state gives back. -/

namespace Sys2Proof.Machine

/-! The sprite fetch in progress (45_snapshot.md R249). -/

/-- The base of the sprite fetch as the latest clock not after `f` at its cycle of a line. -/
theorem fetchBaseOf_eq (u : State) (f : Clock) : u.fetchBaseOf f =
    f - BitVec.ofInt 32 (((f.toNat : Int) - u.clkOrigin.toNat - u.cfg.spriteFetchCycle) % u.cfg.cpl) := by
  generalize hp : (f.toNat : Int) - u.clkOrigin.toNat - u.cfg.spriteFetchCycle = p
  have hsum : (u.clkOrigin.toNat : Int) + (p / u.cfg.cpl * u.cfg.cpl + u.cfg.spriteFetchCycle) + p % u.cfg.cpl =
      f.toNat := by
    have hdiv := Int.ediv_mul_add_emod p u.cfg.cpl
    omega
  have hclock : ∀ c : Clock, c = BitVec.ofInt 32 c.toNat := fun c => by simp
  rw [State.fetchBaseOf, hp]
  refine eq_sub_of_add_eq ?_
  conv_lhs => rw [hclock u.clkOrigin]
  rw [← BitVec.ofInt_add, ← BitVec.ofInt_add, hsum]
  exact (hclock f).symm

/-- Tuple `k` of the list of `mask` is served at the clock `f`. -/
def State.ServedAt (u : State) (mask : Byte) (f : Clock) (k : Nat) : Prop :=
  ∃ tup, (u.cfg.fetchList mask)[k]? = some tup ∧ offsetBy (u.fetchBaseOf f) tup.cycle = f

theorem tupleIndexAt_servedAt {u : State} {mask : Byte} {f : Clock} {k : Nat} (h : u.tupleIndexAt mask f = some k) :
    u.ServedAt mask f k := by
  obtain ⟨hk, hserved, -⟩ := List.findIdx?_eq_some_iff_getElem.1 h
  exact ⟨_, List.getElem?_eq_getElem hk, beq_iff_eq.1 hserved⟩

theorem tupleIndexAt_isSome {u : State} {mask : Byte} {f : Clock} (h : ∃ k, u.ServedAt mask f k) :
    (u.tupleIndexAt mask f).isSome = true := by
  obtain ⟨k, tup, htup, hserved⟩ := h
  rw [State.tupleIndexAt, List.findIdx?_isSome, List.any_eq_true]
  exact ⟨tup, List.mem_of_getElem? htup, beq_iff_eq.2 hserved⟩

/-! What the load of a body gives. -/

theorem reg_storeBody (b : List Byte) (u : State) (r : RegAddr) :
    (storeBody b u).reg r = u.cfg.registerByte r (byteAt b (1119 + (u.cfg.addressOf r).toNat)) := by
  simp [State.reg, storeBody, registerOfBody]

theorem vbuf_storeBody_last (b : List Byte) (u : State) : (storeBody b u).vbuf[39] = byteAt b 1110 := by
  simp [storeBody]

theorem lookup_map_range (f : Nat → Byte) {n k : Nat} (hk : k < n) (start : Nat) :
    Memory.lookup ((List.range' start n).map fun a => (a, f a)) (start + k) = some (f (start + k)) := by
  induction n generalizing start k with
  | zero => omega
  | succ n ih =>
    rw [List.range'_succ, List.map_cons, Memory.lookup]
    cases k with
    | zero => simp
    | succ k =>
      rw [if_neg (by omega)]
      have := ih (k := k) (by omega) (start + 1)
      rwa [show start + 1 + k = start + (k + 1) by omega] at this

theorem colorByte_storeBody (b : List Byte) (u : State) (k : BitVec 10) :
    (storeBody b u).colorByte k = byteAt b (43 + k.toNat) := by
  have hfound := lookup_map_range (fun a => byteAt b (43 + a)) k.isLt 0
  rw [Nat.zero_add] at hfound
  have hram : (storeBody b u).colorRam = (List.range' 0 1024).map fun a => (a, byteAt b (43 + a)) := by
    rw [storeBody, List.range_eq_range']
  rw [State.colorByte, hram]
  simp only [hfound, Option.getD_some]

theorem cycleNow_lt (u : State) : u.cycleNow < u.cfg.cpl := by
  have hpos : (0 : Int) < u.cfg.cpl := by have := drawCycle_lt_cpl u.cfg; omega
  have hlt := Int.emod_lt_of_pos ((u.clk.toNat : Int) - u.clkOrigin.toNat) hpos
  have hnonneg := Int.emod_nonneg ((u.clk.toNat : Int) - u.clkOrigin.toNat) hpos.ne'
  rw [State.cycleNow, State.rasterCycle]
  omega

/-- The cycles from cycle `c` to the next `d` of a line of `l` cycles, at least one. -/
theorem cyclesTo_spec {c d l : Nat} (hc : c < l) (hd : d < l) :
    let n := if (d + l - c) % l = 0 then l else (d + l - c) % l
    1 ≤ n ∧ n ≤ l ∧ (c + n) % l = d := by
  intro n
  have hmod : (c + (d + l - c) % l) % l = d := by
    rw [Nat.add_mod_mod, show c + (d + l - c) = d + l by omega, Nat.add_mod_right, Nat.mod_eq_of_lt hd]
  have hlt : (d + l - c) % l < l := Nat.mod_lt _ (by omega)
  by_cases hzero : (d + l - c) % l = 0
  · rw [hzero] at hmod
    simp only [n, if_pos hzero, Nat.add_mod_right]
    exact ⟨by omega, le_rfl, hmod⟩
  · simp only [n, if_neg hzero]
    exact ⟨by omega, hlt.le, hmod⟩

/-- The next draw alarm (45_snapshot.md R249). -/
theorem nextDrawClk_eq (u : State) : ∃ n, 1 ≤ n ∧ n ≤ u.cfg.cpl ∧ (u.cycleNow + n) % u.cfg.cpl = u.cfg.drawCycle ∧
    u.nextDrawClk = u.clk + BitVec.ofNat 32 n := by
  obtain ⟨hone, hle, hcycle⟩ := cyclesTo_spec (cycleNow_lt u) (drawCycle_lt_cpl u.cfg)
  exact ⟨_, hone, hle, hcycle, rfl⟩

/-! The checks. -/

/-- The conditions on a body under which its load is accepted, as 45_snapshot.md R248 lists them. -/
structure LoadConditions (u : State) (v : Version) (b : List Byte) : Prop where
  version : v.newerThan u.cfg.snapshotVersion = false
  length : b.length = 1223
  cycle : (byteAt b 1116).toNat = u.cycleNow
  line : (word16At b 1117).toNat = u.lineNow
  fetchState : byteAt b 1222 ≤ 2#8
  flags : ∀ k ∈ [0, 1, 2, 1067, 1068], byteAt b k ≤ 1#8
  sprites : ∀ i : SpriteNo, byteAt b (1194 + 3 * i.val) ≤ 63#8 ∧ byteAt b (1195 + 3 * i.val) ≤ 63#8 ∧
    byteAt b (1196 + 3 * i.val) ≤ 1#8
  memCounter : word16At b 1188 ≤ 1023#16
  memptr : word16At b 1191 ≤ 1023#16
  increment : byteAt b 1190 ≤ 40#8
  bank : word16At b 1186 &&& 0x3FFF#16 = 0#16
  tuple : byteAt b 1222 = 2#8 → ∃ k, u.ServedAt (byteAt b 1111) (u.clk + word32At b 1218) k

theorem LoadConditions.accepted {u : State} {v : Version} {b : List Byte} (h : LoadConditions u v b) :
    u.loadProblem v b = none := by
  have hflags : ∀ k ∈ flagOffsets, byteAt b k ≤ 1#8 := fun k hk => by
    obtain hfixed | hsprite := List.mem_append.1 hk
    · exact h.flags k hfixed
    · obtain ⟨i, hi, rfl⟩ := List.mem_map.1 hsprite
      obtain ⟨-, -, hflag⟩ := h.sprites ⟨i, List.mem_range.1 hi⟩
      exact hflag
  have hsprites : ∀ i < 8, byteAt b (1194 + 3 * i) ≤ 63#8 ∧ byteAt b (1195 + 3 * i) ≤ 63#8 := fun i hi => by
    obtain ⟨hmemptr, hinc, -⟩ := h.sprites ⟨i, hi⟩
    exact ⟨hmemptr, hinc⟩
  exact loadProblem_eq_none_iff.2 ⟨h.version, h.length, ⟨h.cycle, h.line⟩, h.fetchState,
    bodyInRange_iff.2 ⟨hflags, hsprites, h.memCounter, h.memptr, h.increment, decide_eq_true h.bank,
      fun htype => tupleIndexAt_isSome (h.tuple htype)⟩⟩

/-! The load of an accepted body. -/

/-- The load of the operands' body, where the checks pass. -/
theorem exec_eventSnapshotLoad_of_conditions {u : State} (h : LoadConditions u u.operands.version u.operands.body) :
    exec .eventSnapshotLoad u = .next (recomputeDerived (storeBody u.operands.body u)) := by
  rw [exec_eventSnapshotLoad, snapshotLoad_of_accepted h.accepted]

section
variable (s : State)

theorem recomputeDerived_regs : (recomputeDerived s).regs = s.regs := by
  rw [recomputeDerived_eq, armRasterCompare_eq]

theorem recomputeDerived_reg : (recomputeDerived s).reg = s.reg := by
  funext r
  rw [State.reg, recomputeDerived_regs]
  rfl

theorem recomputeDerived_colorRam : (recomputeDerived s).colorRam = s.colorRam := by
  rw [recomputeDerived_eq, armRasterCompare_eq]

theorem recomputeDerived_drawClk : (recomputeDerived s).drawClk = s.nextDrawClk := by
  rw [recomputeDerived_eq]

theorem recomputeDerived_spriteFetchIdx : (recomputeDerived s).spriteFetchIdx =
    if s.fetchIdx = .fetchSprite then (s.tupleIndexAt s.newSpriteDmaMask s.fetchClk).getD 0 else 0 := by
  rw [recomputeDerived_eq]

theorem recomputeDerived_renderFromRegs : (recomputeDerived s).renderFromRegs = s.renderFromRegs := by
  refine renderFromRegs_congr (recomputeDerived_regs s) ?_
  rw [recomputeDerived_eq, armRasterCompare_eq]

end

theorem colorByte_recomputeDerived (b : List Byte) (u : State) (k : BitVec 10) :
    (recomputeDerived (storeBody b u)).colorByte k = byteAt b (43 + k.toNat) := by
  rw [State.colorByte, recomputeDerived_colorRam]
  exact colorByte_storeBody b u k

/-- The tuple in progress after the load of a body in fetch state FETCH_SPRITE (45_snapshot.md R249). -/
theorem servedAt_recomputeDerived {b : List Byte} {u : State} (htype : byteAt b 1222 = 2#8)
    (htuple : ∃ k, u.ServedAt (byteAt b 1111) (u.clk + word32At b 1218) k) :
    u.ServedAt (byteAt b 1111) (u.clk + word32At b 1218) (recomputeDerived (storeBody b u)).spriteFetchIdx := by
  obtain ⟨k, hk⟩ := Option.isSome_iff_exists.1 (tupleIndexAt_isSome htuple)
  have hstored : (storeBody b u).tupleIndexAt (storeBody b u).newSpriteDmaMask (storeBody b u).fetchClk = some k := hk
  have hsprite : (storeBody b u).fetchIdx = .fetchSprite := by
    show fetchStateOf (byteAt b 1222) = _
    rw [htype]
    rfl
  rw [recomputeDerived_spriteFetchIdx, if_pos hsprite, hstored]
  exact tupleIndexAt_servedAt hk

/-- A tuple served at `f`, with the base that the obligation writes out. -/
theorem servedAt_iff {u : State} {mask : Byte} {f : Clock} {k : Nat} : u.ServedAt mask f k ↔
    ∃ tup, (u.cfg.fetchList mask)[k]? = some tup ∧
      f - BitVec.ofInt 32 (((f.toNat : Int) - u.clkOrigin.toNat - u.cfg.spriteFetchCycle) % u.cfg.cpl) +
        BitVec.ofInt 32 tup.cycle = f := by
  rw [State.ServedAt, fetchBaseOf_eq]
  rfl

/-! What the body of a state gives back. -/

theorem ofFn_eq {α : Type} {n : Nat} {f : Fin n → α} {v : Vector α n} (h : ∀ i, f i = v[i]) : Vector.ofFn f = v := by
  ext i hi
  rw [Vector.getElem_ofFn]
  exact h ⟨i, hi⟩

section
variable {s : State} {n : Nat}

theorem byteAt_body {v : Byte} (h : s.body[n]? = some v) : byteAt s.body n = v := by
  rw [byteAt, List.getD_eq_getElem?_getD, h]
  rfl

theorem boolAt_body {x : Bool} (h : s.body[n]? = some (byteOfBool x)) : boolAt s.body n = x := by
  rw [boolAt, byteAt_body h]
  cases x <;> rfl

theorem byteOfBool_le (x : Bool) : byteOfBool x ≤ 1#8 := by
  cases x <;> decide

theorem flag_body {x : Bool} (h : s.body[n]? = some (byteOfBool x)) : byteAt s.body n ≤ 1#8 := by
  rw [byteAt_body h]
  exact byteOfBool_le x

/-- A field of two bytes, the least significant one first (45_snapshot.md R243). -/
theorem word16At_body {v : BitVec 16} (j : Nat) (hseg : s.bodySegments[j]? = some (bytesOf16 v))
    (hn : (segmentLengths.take j).sum = n) : word16At s.body n = v := by
  have hlow : byteAt s.body n = v.extractLsb' 0 8 := byteAt_body (body_byte j 0 hseg rfl hn)
  have hhigh : byteAt s.body (n + 1) = v.extractLsb' 8 8 := byteAt_body (body_byte j 1 hseg rfl (by rw [hn]))
  rw [word16At, hlow, hhigh]
  exact BitVec.extractLsb'_append_extractLsb'

theorem word32At_body {v : BitVec 32} (j : Nat) (hseg : s.bodySegments[j]? = some (bytesOf32 v))
    (hn : (segmentLengths.take j).sum = n) : word32At s.body n = v := by
  have h0 : byteAt s.body n = v.extractLsb' 0 8 := byteAt_body (body_byte j 0 hseg rfl hn)
  have h1 : byteAt s.body (n + 1) = v.extractLsb' 8 8 := byteAt_body (body_byte j 1 hseg rfl (by rw [hn]))
  have h2 : byteAt s.body (n + 2) = v.extractLsb' 16 8 := byteAt_body (body_byte j 2 hseg rfl (by rw [hn]))
  have h3 : byteAt s.body (n + 3) = v.extractLsb' 24 8 := byteAt_body (body_byte j 3 hseg rfl (by rw [hn]))
  rw [word32At, h0, h1, h2, h3, BitVec.extractLsb'_append_extractLsb'_eq_extractLsb' (rfl : 24 = 16 + 8),
    BitVec.extractLsb'_append_extractLsb'_eq_extractLsb' (rfl : 16 = 8 + 8)]
  exact BitVec.extractLsb'_append_extractLsb'

/-- A register lives at its address and its bits at their places, so the body gives its value back (30_encoding.md R64,
R65). -/
theorem registerOfBody_body (s : State) (r : RegAddr) : registerOfBody s.cfg.toConfig s.body r = s.reg r := by
  have hstored : byteAt s.body (1119 + (s.cfg.addressOf r).toNat) = s.storedAt (s.cfg.addressOf r) :=
    byteAt_body (body_register s _)
  rw [registerOfBody, hstored, State.storedAt, registerAt_addressOf (regmapWellFormed_of_checked s.cfg),
    registerByte_busByte (bitmapWellFormed_of_checked s.cfg)]

theorem spriteOfBody_body (s : State) (i : SpriteNo) :
    spriteOfBody s.body i = { s.sprites[i] with data := 0, dataNext := 0, pointer := 0 } := by
  have hmemptr := byteAt_body (body_sprite s i (j := 0) (n := 1194 + 3 * i.val) rfl rfl)
  have hinc := byteAt_body (body_sprite s i (j := 1) (n := 1195 + 3 * i.val) rfl (by omega))
  have hflag := boolAt_body (body_sprite s i (j := 2) (n := 1196 + 3 * i.val) rfl (by omega))
  rw [spriteOfBody, hmemptr, hinc, hflag]
  simp

theorem fetchStateOf_code (f : FetchState) : fetchStateOf f.code = f := by
  cases f <;> rfl

theorem and_lowNibble_of_and_highNibble {v : Byte} (h : v &&& 0xF0#8 = 0#8) : v &&& 0x0F#8 = v := by
  revert v
  decide

end

/-- What the body of `s` puts into the fields of `u` (45_snapshot.md R246). -/
theorem storeBody_body {s u : State} (hcfg : u.cfg = s.cfg) (hstatus : s.irqStatus &&& 0xF0#8 = 0#8) :
    storeBody s.body u = { u with
      allowBadLines := s.allowBadLines, badLine := s.badLine, blank := s.blank, cbuf := s.cbuf
      colorRam := (List.range 1024).map fun k => (k, byteAt s.body (43 + k))
      idleState := s.idleState, lightPen := s.lightPen, vbuf := s.vbuf, newSpriteDmaMask := s.newSpriteDmaMask
      ramBaseOffset := s.ramBaseOffset, regs := s.regs, spriteBackgroundCollisions := s.spriteBackgroundCollisions
      spriteDmaMask := s.spriteDmaMask, spriteSpriteCollisions := s.spriteSpriteCollisions
      vbankPhi1 := s.vbankPhi1, vbankPhi2 := s.vbankPhi1, memCounter := s.memCounter
      memCounterInc := s.memCounterInc, memptr := s.memptr, irqStatus := s.irqStatus
      sprites := Vector.ofFn fun i : SpriteNo => { s.sprites[i] with data := 0, dataNext := 0, pointer := 0 }
      fetchClk := u.clk + (s.fetchClk - s.clk), fetchIdx := s.fetchIdx } := by
  have hcbuf : (Vector.ofFn fun c : Fin 40 => byteAt s.body (3 + c.val)) = s.cbuf :=
    ofFn_eq fun c => byteAt_body (body_cbuf s c)
  have hvbuf : (Vector.ofFn fun c : Fin 40 => byteAt s.body (1071 + c.val)) = s.vbuf :=
    ofFn_eq fun c => byteAt_body (body_vbuf s c)
  have hregs : (Vector.ofFn fun r : Fin 64 => registerOfBody u.cfg.toConfig s.body (BitVec.ofNat 6 r.val)) = s.regs :=
    ofFn_eq fun r => by
      rw [hcfg, registerOfBody_body, State.reg]
      simp
  have hcounter : word16At s.body 1188 = s.memCounter.setWidth 16 := word16At_body 12 rfl rfl
  have hmemptr : word16At s.body 1191 = s.memptr.setWidth 16 := word16At_body 14 rfl rfl
  have hbank : word16At s.body 1186 = s.vbankPhi1 := word16At_body 11 rfl rfl
  have hramBase : word32At s.body 1112 = s.ramBaseOffset := word32At_body 6 rfl rfl
  have hfetch : word32At s.body 1218 = s.fetchClk - s.clk := word32At_body 17 rfl rfl
  have hsprites : (Vector.ofFn fun i : SpriteNo => spriteOfBody s.body i) =
      Vector.ofFn fun i : SpriteNo => { s.sprites[i] with data := 0, dataNext := 0, pointer := 0 } :=
    congrArg Vector.ofFn (funext (spriteOfBody_body s))
  have hflags : boolAt s.body 0 = s.allowBadLines ∧ boolAt s.body 1 = s.badLine ∧ boolAt s.body 2 = s.blank ∧
      boolAt s.body 1067 = s.idleState ∧ boolAt s.body 1068 = s.lightPen.triggered :=
    ⟨boolAt_body (body_byte 0 0 rfl rfl rfl), boolAt_body (body_byte 0 1 rfl rfl rfl),
      boolAt_body (body_byte 0 2 rfl rfl rfl), boolAt_body (body_byte 3 0 rfl rfl rfl),
      boolAt_body (body_byte 3 1 rfl rfl rfl)⟩
  have hbytes : byteAt s.body 1069 = s.lightPen.x ∧ byteAt s.body 1070 = s.lightPen.y ∧
      byteAt s.body 1111 = s.newSpriteDmaMask ∧ byteAt s.body 1183 = s.spriteBackgroundCollisions ∧
      byteAt s.body 1184 = s.spriteDmaMask ∧ byteAt s.body 1185 = s.spriteSpriteCollisions ∧
      byteAt s.body 1190 = s.memCounterInc ∧ byteAt s.body 1193 = s.irqStatus ∧
      byteAt s.body 1222 = s.fetchIdx.code :=
    ⟨byteAt_body (body_byte 3 2 rfl rfl rfl), byteAt_body (body_byte 3 3 rfl rfl rfl),
      byteAt_body (body_byte 5 0 rfl rfl rfl), byteAt_body (body_byte 10 0 rfl rfl rfl),
      byteAt_body (body_byte 10 1 rfl rfl rfl), byteAt_body (body_byte 10 2 rfl rfl rfl),
      byteAt_body (body_byte 13 0 rfl rfl rfl), byteAt_body (body_byte 15 0 rfl rfl rfl),
      byteAt_body (body_fetchIdx s)⟩
  obtain ⟨hallow, hbad, hblank, hidle, hpen⟩ := hflags
  obtain ⟨hx, hy, hmask, hsb, hdma, hss, hinc, hirq, hcode⟩ := hbytes
  conv_lhs => rw [storeBody]
  simp only [hallow, hbad, hblank, hidle, hpen, hx, hy, hmask, hsb, hdma, hss, hinc, hirq, hcode, hcbuf, hvbuf, hregs,
    hcounter, hmemptr, hbank, hramBase, hfetch, hsprites, fetchStateOf_code, and_lowNibble_of_and_highNibble hstatus,
    BitVec.setWidth_setWidth_of_le _ (by decide : 10 ≤ 16), BitVec.setWidth_eq]

theorem newerThan_self (v : Version) : v.newerThan v = false := by
  simp [Version.newerThan, BitVec.ult]

theorem cpl_le (c : Config) : c.cpl ≤ 65 := by
  rw [Config.cpl]
  cases c.std <;> decide

theorem fetchStateCode_le (f : FetchState) : f.code ≤ 2#8 := by
  cases f <;> decide

theorem setWidth_eight_le (v : BitVec 6) : v.setWidth 8 ≤ 63#8 := by
  rw [BitVec.le_def, BitVec.toNat_setWidth_of_le (by decide)]
  exact Nat.le_of_lt_succ v.isLt

theorem setWidth_sixteen_le (v : BitVec 10) : v.setWidth 16 ≤ 1023#16 := by
  rw [BitVec.le_def, BitVec.toNat_setWidth_of_le (by decide)]
  exact Nat.le_of_lt_succ v.isLt

/-- The body of `s` passes the checks of a host with its configuration and its raster position. -/
theorem loadConditions_body {s u : State} (h : RangesOk s) (hcfg : u.cfg = s.cfg) (hcycle : u.cycleNow = s.cycleNow)
    (hline : u.lineNow = s.lineNow)
    (htuple : s.fetchIdx = .fetchSprite → ∃ k, u.ServedAt s.newSpriteDmaMask (u.clk + (s.fetchClk - s.clk)) k) :
    LoadConditions u s.cfg.snapshotVersion s.body := by
  obtain ⟨-, -, hinc, hbank, -⟩ := h
  have hcode : byteAt s.body 1222 = s.fetchIdx.code := byteAt_body (body_fetchIdx s)
  have hcounter : word16At s.body 1188 = s.memCounter.setWidth 16 := word16At_body 12 rfl rfl
  have hmemptr : word16At s.body 1191 = s.memptr.setWidth 16 := word16At_body 14 rfl rfl
  have hvbank : word16At s.body 1186 = s.vbankPhi1 := word16At_body 11 rfl rfl
  constructor
  case version => rw [hcfg]; exact newerThan_self _
  case length => exact length_body s
  case cycle =>
    have hlt := cycleNow_lt s
    have hle := cpl_le s.cfg.toConfig
    rw [byteAt_body (body_byte 7 0 rfl rfl rfl : s.body[1116]? = _), hcycle, BitVec.toNat_ofNat]
    omega
  case line =>
    have hlt := rasterY_lt s s.clk.toNat
    have hle := screenHeight_le s.cfg.toConfig
    rw [word16At_body 8 rfl (rfl : _ = 1117), hline, BitVec.toNat_ofNat]
    exact Nat.mod_eq_of_lt (by rw [State.lineNow]; omega)
  case fetchState => rw [hcode]; exact fetchStateCode_le _
  case flags =>
    intro k hk
    fin_cases hk
    · exact flag_body (body_byte 0 0 rfl rfl rfl)
    · exact flag_body (body_byte 0 1 rfl rfl rfl)
    · exact flag_body (body_byte 0 2 rfl rfl rfl)
    · exact flag_body (body_byte 3 0 rfl rfl rfl)
    · exact flag_body (body_byte 3 1 rfl rfl rfl)
  case sprites =>
    intro i
    refine ⟨?_, ?_, flag_body (body_sprite s i (j := 2) rfl (by omega))⟩
    · rw [byteAt_body (body_sprite s i (j := 0) (n := 1194 + 3 * i.val) rfl rfl)]
      exact setWidth_eight_le _
    · rw [byteAt_body (body_sprite s i (j := 1) (n := 1195 + 3 * i.val) rfl (by omega))]
      exact setWidth_eight_le _
  case memCounter => rw [hcounter]; exact setWidth_sixteen_le _
  case memptr => rw [hmemptr]; exact setWidth_sixteen_le _
  case increment => rw [byteAt_body (body_byte 13 0 rfl rfl rfl : s.body[1190]? = _)]; exact hinc
  case bank => rw [hvbank]; exact of_decide_eq_true hbank
  case tuple =>
    intro htype
    have hsprite : s.fetchIdx = .fetchSprite := by
      rw [← fetchStateOf_code s.fetchIdx, ← hcode, htype]
      rfl
    rw [byteAt_body (body_byte 5 0 rfl rfl rfl : s.body[1111]? = _), word32At_body 17 rfl (rfl : _ = 1218)]
    exact htuple hsprite

theorem snapshotOut_of_write {w s : State} {p : Snapshot} (h : exec .eventSnapshotWrite w = .next s)
    (hout : s.snapshotOut = some p) : p.version = s.cfg.snapshotVersion ∧ p.body = s.body := by
  obtain ⟨s1, -, rfl⟩ := map_eq_ok.1 (answer_eq_next.1 h)
  cases hout
  exact ⟨rfl, rfl⟩

/-- The state with what RECOMPUTE_DERIVED writes taken from `t` (45_snapshot.md R249). -/
def State.withDerived (s t : State) : State :=
  { s with
    rasterIrqLine := t.rasterIrqLine, rasterIrqClk := t.rasterIrqClk, log := t.log, currentLine := t.currentLine
    drawClk := t.drawClk, videoMode := t.videoMode, borderTop := t.borderTop, borderBottom := t.borderBottom
    verticalBorder := t.verticalBorder, changes := t.changes, lineStart := t.lineStart
    backgroundColorSource := t.backgroundColorSource, ycounter := t.ycounter
    forceDisplayState := t.forceDisplayState, lastRead := t.lastRead, stolenCycles := t.stolenCycles
    cache := t.cache, irqLine := t.irqLine, spriteFetchMsk := t.spriteFetchMsk
    spriteFetchBase := t.spriteFetchBase, spriteFetchIdx := t.spriteFetchIdx }

theorem recomputeDerived_eq_withDerived (s : State) : recomputeDerived s = s.withDerived (recomputeDerived s) := by
  rw [recomputeDerived_eq, armRasterCompare_eq]
  rfl

/-- The load of the body of `s` gives back every byte of its colour RAM. -/
theorem colorByte_load_body (s u : State) (a : BitVec 10) :
    (recomputeDerived (storeBody s.body u)).colorByte a = s.colorByte a := by
  rw [colorByte_recomputeDerived, byteAt_body (body_colorRam s ⟨a.toNat, a.isLt⟩)]
  simp

/-- Settles O49: `recomputeDerived_eq` on the stored body, whose fields `storeBody_body` gives back. -/
theorem snapshotRoundTrip : Obligations.SnapshotRoundTrip := by
  refine ⟨?load, ?roundTrip⟩
  case load =>
    intro u byte word long flag fetch line hversion hlength hcycle hline htype hflags hsprites hcounter hptr hinc hbank
      htuple
    have hconditions : LoadConditions u u.operands.version u.operands.body :=
      ⟨hversion, hlength, hcycle, hline, htype, hflags, hsprites, hcounter, hptr, hinc, hbank, fun h => by
        obtain ⟨k, hk⟩ := htuple h
        exact ⟨k, servedAt_iff.2 hk⟩⟩
    have hsprite : (storeBody u.operands.body u).fetchIdx = .fetchSprite ↔ byte 1222 = 2#8 :=
      fetchStateOf_eq_fetchSprite_iff htype
    refine ⟨_, exec_eventSnapshotLoad_of_conditions hconditions, fun r => ?_, colorByte_recomputeDerived _ u, ?_,
      fun h => servedAt_iff.1 (servedAt_recomputeDerived h (hconditions.tuple h)), fun h => ?_, ?_⟩
    · rw [recomputeDerived_reg]
      exact reg_storeBody _ u r
    · rw [recomputeDerived_drawClk]
      exact nextDrawClk_eq u
    · rw [recomputeDerived_spriteFetchIdx]
      exact if_neg (mt hsprite.1 h)
    · generalize ht : recomputeDerived (storeBody u.operands.body u) = t
      have hreg : t.reg = (storeBody u.operands.body u).reg := ht ▸ recomputeDerived_reg _
      have hregs : t.regs = (storeBody u.operands.body u).regs := ht ▸ recomputeDerived_regs _
      have hcolor : t.colorRam = (storeBody u.operands.body u).colorRam := ht ▸ recomputeDerived_colorRam _
      have hdraw : t.drawClk = (storeBody u.operands.body u).nextDrawClk := ht ▸ recomputeDerived_drawClk _
      have hidx : t.spriteFetchIdx = _ := ht ▸ recomputeDerived_spriteFetchIdx _
      have hfrom : t.renderFromRegs = (storeBody u.operands.body u).renderFromRegs :=
        ht ▸ recomputeDerived_renderFromRegs _
      rw [hreg, hregs, hcolor, hdraw, hidx, hfrom]
      refine ht.symm.trans ?_
      rw [recomputeDerived_eq, armRasterCompare_eq]
      simp only [hsprite, fetchBaseOf_eq, vbuf_storeBody_last]
      rfl
  case roundTrip =>
    intro w s u p hwrite hout hranges htuple hcfg hcycle hline hversion hbody
    obtain ⟨hversion', hbody'⟩ := snapshotOut_of_write hwrite hout
    have hconditions : LoadConditions u u.operands.version u.operands.body := by
      rw [hversion, hbody, hversion', hbody']
      exact loadConditions_body hranges hcfg hcycle hline fun h => by
        obtain ⟨k, hk⟩ := htuple h
        exact ⟨k, servedAt_iff.2 hk⟩
    refine ⟨_, exec_eventSnapshotLoad_of_conditions hconditions, ?_⟩
    rw [hbody, hbody']
    obtain ⟨hstatus, -⟩ := hranges
    have hkept := (recomputeDerived_eq_withDerived (storeBody s.body u)).trans
      (congrArg (State.withDerived · (recomputeDerived (storeBody s.body u))) (storeBody_body hcfg hstatus))
    have hcolor := colorByte_load_body s u
    have hderived := derivedOk_recomputeDerived (storeBody s.body u)
    have htargets := targetsOk_recomputeDerived (storeBody s.body u)
    have hdrained : (recomputeDerived (storeBody s.body u)).changes = [] ∧
        (recomputeDerived (storeBody s.body u)).lastRead = 0 := by
      rw [recomputeDerived_eq]
      exact ⟨rfl, rfl⟩
    generalize recomputeDerived (storeBody s.body u) = t at *
    have hfield : ∀ {α : Type} (f : State → α), f t = f _ := fun f => congrArg f hkept
    obtain ⟨hchanges, hread⟩ := hdrained
    refine ⟨hfield State.regs, hfield State.vbuf, hfield State.cbuf, hcolor, hfield State.allowBadLines,
      hfield State.badLine, hfield State.blank, hfield State.idleState, hfield State.lightPen,
      hfield State.newSpriteDmaMask, hfield State.spriteDmaMask, hfield State.ramBaseOffset,
      hfield State.spriteSpriteCollisions, hfield State.spriteBackgroundCollisions, hfield State.vbankPhi1,
      hfield State.vbankPhi2, hfield State.memCounter, hfield State.memCounterInc, hfield State.memptr,
      hfield State.irqStatus, hfield State.fetchIdx, ?_, hfield State.clk, hfield State.clkOrigin, fun i => ?_,
      hchanges, hread, hderived, htargets⟩
    · have hfetch : t.fetchClk = u.clk + (s.fetchClk - s.clk) := hfield State.fetchClk
      have hclk : t.clk = u.clk := hfield State.clk
      rw [hfetch, hclk, add_sub_cancel_left]
    · have hsprites : t.sprites = Vector.ofFn fun i : SpriteNo =>
          { s.sprites[i] with data := 0, dataNext := 0, pointer := 0 } := hfield State.sprites
      simp [hsprites]

end Sys2Proof.Machine
